-- ==== Sys2Proof/Word.lean ====
section
/-! DEFINITION. The byte: the smallest thing either link carries (R171). -/

namespace Sys2Proof

/-- One byte of a unit; bits are numbered from 0, the least significant (R171). -/
abbrev Byte := BitVec 8

end Sys2Proof
end

