-- ==== Sys2Proof/Syntax.lean ====
section
/-! DEFINITION. The commands of the part: one constructor for each row of spec/opcode_table.json. A row that is a unit
of a link carries the unit's 96 bytes as received, so that the check word, the destination, the fields and the bits no
kind names are all operands (R25, R27, R172, R174). -/

namespace Sys2Proof

/-- A unit of either link: 8 header bytes, then 88 body bytes, counted apart (R171). -/
structure Unit96 where
  header : Vector Byte 8
  body   : Vector Byte 88
  deriving DecidableEq, Repr

/-- The viewing ports P0 to P3 (00_scope, "Ports and channels"). -/
abbrev Port := Fin 4

/-- The two scrambling phases that a key-store entry holds (R51). -/
inductive KeyPhase where
  | a
  | b
  deriving DecidableEq, Repr

/-- The rows of the table of operations and events. -/
inductive Instr where
  /-- R15. Supply start, or the reset input asserted; the operand is how the 14 room strap pins stand. -/
  | powerOnReset (strap : BitVec 14)
  /-- R21. A MEDIA unit on the feed. -/
  | mediaUnit (u : Unit96)
  /-- R20. A FILLER unit on the feed. -/
  | filler (u : Unit96)
  /-- R20. Another room's RETURN unit on the feed. -/
  | feedReturnUnit (u : Unit96)
  /-- R20. A feed unit of an invalid kind, or a MEDIA or MGMT unit of the invalid phase. -/
  | formatFault (u : Unit96)
  /-- R28. A management unit of a kind outside the thirteen. -/
  | badKind (u : Unit96)
  /-- R9. -/
  | clockMark (u : Unit96)
  /-- R58 to R62. -/
  | keyLoad (u : Unit96)
  /-- R67. A KEY_PURGE unit with the all-groups flag clear. -/
  | keyPurge (u : Unit96)
  /-- R68. A KEY_PURGE unit with the all-groups flag set. -/
  | keyPurgeAllGroups (u : Unit96)
  /-- R33. -/
  | tableOpen (u : Unit96)
  /-- R34. -/
  | tableData (u : Unit96)
  /-- R3. -/
  | stayOpen (u : Unit96)
  /-- R4. -/
  | stayClose (u : Unit96)
  /-- R7. -/
  | roomSettings (u : Unit96)
  /-- R119. A LOCK_ORDER unit of order 1, or of an order outside the six, which R173 refuses. -/
  | setCeiling (u : Unit96)
  /-- R119. A LOCK_ORDER unit of order 5. -/
  | endUnlocks (u : Unit96)
  /-- R120. A LOCK_ORDER unit of order 2. -/
  | clearPin (u : Unit96)
  /-- R120. A LOCK_ORDER unit of order 6. -/
  | endLockout (u : Unit96)
  /-- R121. A LOCK_ORDER unit of order 3. -/
  | freeze (u : Unit96)
  /-- R121. A LOCK_ORDER unit of order 4. -/
  | unfreeze (u : Unit96)
  /-- R12, R13. A HOUSE_ALERT unit with a duration above 0. -/
  | houseAlert (u : Unit96)
  /-- R14. A HOUSE_ALERT unit with duration 0. -/
  | houseAlertStop (u : Unit96)
  /-- R156. A POLL unit of variant 1, or of a variant outside the two, which R173 refuses. -/
  | pollBilling (u : Unit96)
  /-- R158. A POLL unit of variant 2. -/
  | pollCapture (u : Unit96)
  /-- R19. The transmission of a return unit ends. -/
  | returnTransmitEnd
  /-- R160. -/
  | release (u : Unit96)
  /-- R16, R70, R103. -/
  | roomReset (u : Unit96)
  /-- R8. A local second passes. -/
  | localSecond
  /-- R11. The silence count reaches 90. -/
  | silent
  /-- R57. The expiry of one phase of a key group falls due. -/
  | keyPhaseExpiry (group : Nat) (phase : KeyPhase)
  /-- R117. A port's unlock end time falls due. -/
  | unlockEnd (port : Port)
  /-- R114. The lockout end falls due. -/
  | lockoutEnd
  /-- R115. The strict quiet end falls due. -/
  | strictQuietEnd
  /-- R135. The window end of the purchase of a title falls due. -/
  | purchaseWindowEnd (title : Nat)
  /-- R14. The alert's end time falls due. -/
  | houseAlertEnd
  /-- R91. A port's signal timer runs out. -/
  | signalTimerExpiry (port : Port)
  /-- R93. A BLANKED port's cadence runs out. -/
  | blankCadenceExpiry (port : Port)
  /-- R167. The link finishes a unit and the oldest unit of the transmit list begins. -/
  | linkUnitSent
  /-- R163. A unit from the room sets whose link kind is not REQUEST. -/
  | nonRequestUnit (u : Unit96)
  /-- R175. A request whose kind is none of the twelve. -/
  | unknownRequestKind (u : Unit96)
  /-- R86. -/
  | tune (u : Unit96)
  /-- R87. -/
  | off (u : Unit96)
  /-- R127 to R130. -/
  | buy (u : Unit96)
  /-- R133, R134. -/
  | cancel (u : Unit96)
  /-- R108. -/
  | pinUnlock (u : Unit96)
  /-- R109. -/
  | pinSet (u : Unit96)
  /-- R110. -/
  | ceiling (u : Unit96)
  /-- R111. -/
  | relock (u : Unit96)
  /-- R46. -/
  | list (u : Unit96)
  /-- R168. -/
  | queryPort (u : Unit96)
  /-- R168. -/
  | queryRoom (u : Unit96)
  /-- R169. -/
  | linkReset (u : Unit96)
  deriving DecidableEq, Repr

end Sys2Proof
end

