-- ==== Sys2Proof/Decode.lean ====
section
/-! DEFINITION. The command that a word spells by the bits of spec/opcode_table.json. No row of this table gives bits
(spec/98_reader.md counts none with fixed bits or fields), so no word spells a command (notes/assumptions/16.md). -/

namespace Sys2Proof

/-- The table gives no row any bits: every word spells no command. -/
def decodeTableWord (_nbits _w : Nat) : Option Instr := none

end Sys2Proof
end

