-- ==== Sys2Proof/Machine/Fields.lean ====
section
/-! DEFINITION. The bytes of a unit: fields of more than one byte most significant byte first (R171), the feed header
(R172), the check word (R25), and which row of the table a unit spells (R172 to R175). -/

namespace Sys2Proof

/-- Body byte `n` of a unit; 0 past the body's end. -/
def Unit96.byte (u : Unit96) (n : Nat) : Byte := u.body[n]?.getD 0

/-- R171: the two-byte field at body byte `n`. -/
def Unit96.word16 (u : Unit96) (n : Nat) : Nat := (u.byte n).toNat * 256 + (u.byte (n + 1)).toNat

/-- R171: the three-byte field at body byte `n`. -/
def Unit96.word24 (u : Unit96) (n : Nat) : Nat := u.word16 n * 256 + (u.byte (n + 2)).toNat

/-- R171: the four-byte field at body byte `n`. -/
def Unit96.word32 (u : Unit96) (n : Nat) : Nat := u.word16 n * 65536 + u.word16 (n + 2)

/-- Bit `i` of body byte `n`, bit 0 the least significant (R171). -/
def Unit96.bit (u : Unit96) (n i : Nat) : Bool := (u.byte n).getLsbD i

/-- The unit whose header and body begin with these bytes and go on with zeros. -/
def Unit96.ofBytes (header body : List Byte) : Unit96 where
  header := Vector.ofFn fun i => header.getD i 0
  body   := Vector.ofFn fun i => body.getD i 0

/-! ## The feed header (R172) -/

/-- R20, R172: the kinds of a feed unit; codes 0 and 5 to 255 are invalid. -/
inductive FeedKind where
  | media
  | mgmt
  | filler
  | ret
  | invalid
  deriving DecidableEq, Repr

/-- R20, R172: the phase of a programme unit. -/
inductive UnitPhase where
  | clear
  | scrambled (phase : KeyPhase)
  | invalid
  deriving DecidableEq, Repr

/-- R172, header byte 0. -/
def Unit96.feedKind (u : Unit96) : FeedKind :=
  match u.header[0].toNat with
  | 1 => .media
  | 2 => .mgmt
  | 3 => .filler
  | 4 => .ret
  | _ => .invalid

/-- R172, header bytes 1 to 2: bits 11 to 0; bits 15 to 12 are not examined. -/
def Unit96.stream (u : Unit96) : Nat := (u.header[1].toNat * 256 + u.header[2].toNat) % 4096

/-- R172, header byte 3, bits 7 to 6. -/
def Unit96.phase (u : Unit96) : UnitPhase :=
  match u.header[3].toNat / 64 with
  | 0 => .clear
  | 1 => .scrambled .a
  | 2 => .scrambled .b
  | _ => .invalid

/-- R172, header byte 3, bits 3 to 0. -/
def Unit96.count (u : Unit96) : Nat := u.header[3].toNat % 16

/-! ## The check word (R25) -/

/-- R25: one data bit, shifted in at the register's most significant end. -/
def crcBit (r : BitVec 16) (d : Bool) : BitVec 16 :=
  if r.msb != d then (r <<< 1) ^^^ 0x1021#16 else r <<< 1

/-- R25: the bits of a byte, most significant first. -/
def crcByte (r : BitVec 16) (b : Byte) : BitVec 16 :=
  [7, 6, 5, 4, 3, 2, 1, 0].foldl (fun r i => crcBit r (b.getLsbD i)) r

/-- R25: the register starts with all ones and takes the bytes first to last. -/
def crc (bytes : List Byte) : BitVec 16 := bytes.foldl crcByte 0xFFFF#16

/-- R25: the check word stands in body bytes 86 and 87 and covers bytes 0 to 85. -/
def Unit96.checkOk (u : Unit96) : Bool := (crc (u.body.toList.take 86)).toNat == u.word16 86

/-! ## Which row a unit spells -/

/-- R172: a management unit of a kind code; SF hands MD only units of a valid phase (R20). -/
def Unit96.spellsMgmt (u : Unit96) (kind : Nat) : Bool :=
  u.feedKind == .mgmt && u.phase != .invalid && (u.byte 2).toNat == kind

/-- R173: a management unit whose kind code is 0 or 14 to 255. -/
def Unit96.spellsBadKind (u : Unit96) : Bool :=
  u.feedKind == .mgmt && u.phase != .invalid && ((u.byte 2).toNat == 0 || 14 ≤ (u.byte 2).toNat)

/-- R20, R172: an invalid kind, or a MEDIA or MGMT unit of phase code 3. -/
def Unit96.spellsFormatFault (u : Unit96) : Bool :=
  u.feedKind == .invalid || ((u.feedKind == .media || u.feedKind == .mgmt) && u.phase == .invalid)

/-- R21: a MEDIA unit of a valid phase. -/
def Unit96.spellsMedia (u : Unit96) : Bool := u.feedKind == .media && u.phase != .invalid

/-- R172: KEY_PURGE with its all-groups flag, body byte 5 bit 0, as given. -/
def Unit96.spellsPurge (u : Unit96) (all : Bool) : Bool := u.spellsMgmt 3 && u.bit 5 0 == all

/-- R172: the order code of a LOCK_ORDER. -/
def Unit96.order (u : Unit96) : Nat := (u.byte 3).toNat

/-- R172: LOCK_ORDER of the order given. -/
def Unit96.spellsOrder (u : Unit96) (order : Nat) : Bool := u.spellsMgmt 9 && u.order == order

/-- The row SET_CEILING: LOCK_ORDER of order 1, or of an order outside the six (R173, notes/assumptions/13.md). -/
def Unit96.spellsSetCeiling (u : Unit96) : Bool := u.spellsMgmt 9 && !(2 ≤ u.order && u.order ≤ 6)

/-- R172: HOUSE_ALERT's duration in seconds. -/
def Unit96.duration (u : Unit96) : Nat := u.word16 4

/-- The row HOUSE_ALERT: a duration above 0 (R12). -/
def Unit96.spellsAlert (u : Unit96) : Bool := u.spellsMgmt 10 && u.duration != 0

/-- The row HOUSE_ALERT_STOP: duration 0 (R14). -/
def Unit96.spellsAlertStop (u : Unit96) : Bool := u.spellsMgmt 10 && u.duration == 0

/-- R172: POLL's variant code. -/
def Unit96.variant (u : Unit96) : Nat := (u.byte 3).toNat

/-- The row POLL_BILLING: variant 1, or a variant outside the two (R173, notes/assumptions/13.md). -/
def Unit96.spellsPollBilling (u : Unit96) : Bool := u.spellsMgmt 11 && u.variant != 2

/-- The row POLL_CAPTURE: variant 2. -/
def Unit96.spellsPollCapture (u : Unit96) : Bool := u.spellsMgmt 11 && u.variant == 2

/-- R163, R174: a REQUEST unit of the request kind given. -/
def Unit96.spellsRequest (u : Unit96) (kind : Nat) : Bool := u.header[0].toNat == 0x20 && (u.byte 0).toNat == kind

/-- R175: a REQUEST unit whose request kind is 0 or 13 to 255. -/
def Unit96.spellsUnknownRequest (u : Unit96) : Bool :=
  u.header[0].toNat == 0x20 && ((u.byte 0).toNat == 0 || 13 ≤ (u.byte 0).toNat)

/-- R163: a unit from the room sets of another link kind than REQUEST. -/
def Unit96.spellsNonRequest (u : Unit96) : Bool := u.header[0].toNat != 0x20

end Sys2Proof
end

