-- ==== Sys2Proof/Machine/Constants.lean ====
section
/-! DEFINITION. The numbers the spec fixes, each named once with its rule. -/

namespace Sys2Proof.Machine

/-- R8, R10: the last value of the stay clock, at which due times are held. -/
@[simp] abbrev clockMax : Nat := 4294967295

/-- 00_scope, "Numbers": diagnostic counters saturate here. -/
@[simp] abbrev counterMax : Nat := 65535

/-- R6: the greatest cap. -/
@[simp] abbrev moneyMax : Nat := 10000000

/-- R11: the silence count at which the part becomes SILENT. -/
@[simp] abbrev silenceLimit : Nat := 90

/-- R12: the greatest alert duration in seconds. -/
@[simp] abbrev alertMax : Nat := 3600

/-- R19: how many return units may wait. -/
@[simp] abbrev waitingMax : Nat := 4

/-- R90: a started signal timer, in local milliseconds. -/
@[simp] abbrev signalMs : Nat := 3000

/-- R93: a started blank cadence, in local milliseconds. -/
@[simp] abbrev blankMs : Nat := 500

/-- R96: how many records the Preview List holds. -/
@[simp] abbrev previewMax : Nat := 8

/-- R113, R114, R115: the lock's intervals in seconds. -/
@[simp] abbrev lockoutSeconds : Nat := 600

/-- R113, R114: the strict quiet interval in seconds. -/
@[simp] abbrev strictSeconds : Nat := 2400

/-- R125: how many purchases may be open. -/
@[simp] abbrev purchaseMax : Nat := 8

/-- R132: how many new purchases a silence admits. -/
@[simp] abbrev silentBuyMax : Nat := 2

/-- R133: the cancel grace in seconds. -/
@[simp] abbrev graceSeconds : Nat := 300

/-- R147: outage seconds below this earn no credit. -/
@[simp] abbrev outageMin : Nat := 120

/-- R160: the run of sequence numbers that a RELEASE reaches over. -/
@[simp] abbrev releaseRun : Nat := 48

/-- R164: how many requests may be unanswered. -/
@[simp] abbrev requestMax : Nat := 8

/-- R167: programme and blank units join the transmit list only below this length. -/
@[simp] abbrev linkDataMax : Nat := 64

end Sys2Proof.Machine
end

