-- ==== Sys2Proof/Config.lean ====
section
/-! DEFINITION. What is fixed outside the part: the values a model of it must name though the spec gives none. -/

namespace Sys2Proof.Config

/-- DESIGN CHOICE (unsafe, notes/assumptions/8.md). The room number held before the first POWER_ON_RESET has read the
strap pins; the spec gives none, and that command's operand says how the pins stand. -/
def resetRoom : BitVec 14 := 0

/-- The free value for each order that the spec leaves open (R10, R21, R71, R89, R95, R99, R139, R167), by the number of the
draw. It has no body, so nothing can be proved of an order that it decides (notes/assumptions/4.md). -/
opaque freeOrder : Nat → Nat

end Sys2Proof.Config
end

