-- ==== Sys2Proof/Machine/State.lean ====
section
/-! DEFINITION. The state of the part, block by block, as plain data, and its power-on values (00_scope, "Block diagram
in words"; the reset table of each chapter). -/

namespace Sys2Proof.Machine

/-- A channel number, 0 to 255 (00_scope, "Ports and channels"). -/
abbrev Channel := Fin 256

/-- A price code, the index of a Price Table entry (R41). -/
abbrev PriceCode := Fin 32

/-! ## Stay Unit -/

/-- R1. -/
inductive Occupancy where
  | vacant
  | occupied
  | settling
  deriving DecidableEq, Repr

/-- R1, R4: the summary of the last STAY_CLOSE that was taken. -/
structure ClosedStay where
  stay : Nat
  net  : Nat
  deriving DecidableEq, Repr

/-- R12: an active house alert. -/
structure Alert where
  channel : Channel
  endTime : Nat
  deriving DecidableEq, Repr

/-- The stay record (R1), the stay clock (R8), the silence monitor (R11) and the alert (R12). -/
structure StayUnit where
  occupancy    : Occupancy
  stayNumber   : Nat
  spend        : Nat
  cap          : Nat
  packages     : BitVec 16
  discretion   : Bool
  group        : Fin 256
  vacantFirst  : Channel
  vacantLast   : Channel
  restarted    : Bool
  lastClosed   : Option ClosedStay
  clock        : Nat
  marksIgnored : Nat
  silenceCount : Nat
  silent       : Bool
  alert        : Option Alert
  deriving DecidableEq, Repr

/-! ## Table Memory and the Stream Remap Table -/

/-- R36: how a service is sold. A field "by tier" stands with its tier and is 0 for the others. -/
inductive Tier where
  | house
  | free
  | package (number : Fin 16)
  | film (title : Nat) (price : PriceCode)
  deriving DecidableEq, Repr

/-- R36: a PRESENT Service Map entry; `keyGroup` is none for NONE. -/
structure Service where
  tier     : Tier
  stream   : Nat
  keyGroup : Option Nat
  rating   : Nat
  deriving DecidableEq, Repr

/-- R41: a present Price Table entry. -/
structure PriceEntry where
  standard  : Nat
  offPeak   : Nat
  bandStart : Nat
  bandEnd   : Nat
  tax       : Nat
  preview   : Nat
  window    : Nat
  deriving DecidableEq, Repr

/-- R36, R41: the two tables; an ABSENT entry is none. -/
structure TableMemory where
  services : Vector (Option Service) 256
  prices   : Vector (Option PriceEntry) 32
  deriving DecidableEq, Repr

/-- R22: a present Stream Remap Table entry. -/
structure RemapEntry where
  first  : Nat
  count  : Nat
  target : Nat
  deriving DecidableEq, Repr

/-- R20, R22. -/
structure StreamFilter where
  remap        : Vector (Option RemapEntry) 8
  formatFaults : Nat
  deriving DecidableEq, Repr

/-! ## Management Decoder -/

/-- R32: the table a burst fills. -/
inductive Table where
  | service
  | price
  | remap
  deriving DecidableEq, Repr

/-- R32: an open burst. -/
structure Burst where
  table   : Table
  first   : Nat
  last    : Nat
  pointer : Nat
  tag     : Byte
  deriving DecidableEq, Repr

/-- R26: a filled fault capture record. -/
structure Capture where
  header : Vector Byte 8
  body   : Vector Byte 16
  clock  : Nat
  deriving DecidableEq, Repr

/-- R30: the reasons of a management refusal. -/
inductive RefusalReason where
  | badKind
  | badField
  | roomOnly
  | bounds
  | noBurst
  | occupied
  | expired
  deriving DecidableEq, Repr

/-- R30: the last refusal record, with the unit's kind as received. -/
structure LastRefusal where
  kind   : Byte
  reason : RefusalReason
  clock  : Nat
  deriving DecidableEq, Repr

/-- R26, R30, R32, R34. -/
structure ManagementDecoder where
  burst         : Option Burst
  capture       : Option Capture
  lastRefusal   : Option LastRefusal
  checkFailures : Nat
  refusals      : Nat
  overruns      : Nat
  deriving DecidableEq, Repr

/-! ## Key Store -/

/-- R52: a valid phase; an invalid one is none, since its word and expiry are not read. Expiry 0 never expires. -/
structure PhaseKey where
  word   : BitVec 64
  expiry : Nat
  deriving DecidableEq, Repr

/-- R51: an entry of a way or of the arrival slot. -/
structure KeyEntry where
  group  : Nat
  phaseA : Option PhaseKey
  phaseB : Option PhaseKey
  deriving DecidableEq, Repr

/-- R51: the two ways of a set. -/
inductive Way where
  | way0
  | way1
  deriving DecidableEq, Repr

/-- R51, R54: a set; a free way is none (R55), and `recent` is the way the recency mark names. -/
structure KeySet where
  way0   : Option KeyEntry
  way1   : Option KeyEntry
  recent : Way
  deriving DecidableEq, Repr

/-- R51, R53, R69. -/
structure KeyStore where
  sets      : Vector KeySet 32
  slot      : Option KeyEntry
  replaced  : Nat
  displaced : Nat
  deriving DecidableEq, Repr

/-! ## Port Controller -/

/-- R82: whether the port's units are arriving and clearing. -/
inductive Delivery where
  | flowing
  | noSignal
  | noKey
  deriving DecidableEq, Repr

/-- R82: why the screen may not be shown. -/
inductive BlankReason where
  | vacant
  | locked
  | notEntitled
  | notPurchased
  | previewOver
  deriving DecidableEq, Repr

/-- The three active states (R82, 00_scope "Active port"). -/
inductive View where
  | playing
  | preview
  | alert
  deriving DecidableEq, Repr

/-- R82: a port record; each state carries the fields the table holds in it. A timer of 0 has run out (R90;
DESIGN CHOICE, notes/assumptions/26.md). -/
inductive PortRecord where
  | off
  | active (view : View) (home : Channel) (stream : Option Nat) (delivery : Delivery) (timer : Nat)
  | blanked (reason : BlankReason) (home : Channel) (cadence : Nat)
  deriving DecidableEq, Repr

/-- R82: the five state names, as notices and summaries carry them. -/
inductive PortState where
  | off
  | playing
  | preview
  | blanked
  | alert
  deriving DecidableEq, Repr

/-- R96: a record of the Preview List. -/
structure Preview where
  title   : Nat
  seconds : Nat
  bought  : Bool
  deriving DecidableEq, Repr

/-- R82, R96; the Preview List is oldest first. -/
structure PortController where
  ports    : Vector PortRecord 4
  previews : List Preview
  deriving DecidableEq, Repr

/-! ## Lock Unit -/

/-- R105. The PIN is the list of its digits; a lockout, strict mode and an unlock are in force exactly while their field
holds its end time. -/
structure LockUnit where
  ceiling  : Nat
  pin      : Option (List Nat)
  failures : Nat
  lockout  : Option Nat
  strict   : Option Nat
  frozen   : Bool
  unlocks  : Vector (Option Nat) 4
  deriving DecidableEq, Repr

/-! ## Purchase Unit and Billing Queue -/

/-- R125: an open purchase. -/
structure Purchase where
  title     : Nat
  price     : PriceCode
  rating    : Nat
  start     : Nat
  window    : Nat
  windowEnd : Nat
  charge    : Nat
  offPeak   : Bool
  silent    : Bool
  outage    : Nat
  deriving DecidableEq, Repr

/-- R125, R132. -/
structure PurchaseUnit where
  purchases   : List Purchase
  silentCount : Nat
  deriving DecidableEq, Repr

/-- R150. -/
inductive RecordKind where
  | purchase
  | credit
  | void
  deriving DecidableEq, Repr

/-- R150, R151. -/
inductive Category where
  | film
  | adult
  deriving DecidableEq, Repr

/-- R150: a billing record with its internal sent mark. -/
structure BillingRecord where
  seq      : Nat
  stay     : Nat
  kind     : RecordKind
  category : Category
  title    : Nat
  price    : PriceCode
  time     : Nat
  amount   : Nat
  offPeak  : Bool
  silent   : Bool
  discreet : Bool
  sent     : Bool
  deriving DecidableEq, Repr

/-- R152, R154, R155; the queue is oldest first. -/
structure BillingQueue where
  queue   : List BillingRecord
  nextSeq : Nat
  high    : Nat
  low     : Nat
  hold    : Bool
  deriving DecidableEq, Repr

/-! ## Return units and the Feed Interface -/

/-- R157, "Ports": one port as the status summary carries it. -/
structure PortStatus where
  state    : PortState
  reason   : Option BlankReason
  delivery : Option Delivery
  deriving DecidableEq, Repr

/-- R157: the status summary of a return unit. -/
structure Summary where
  room          : BitVec 14
  group         : Fin 256
  occupancy     : Occupancy
  stayNumber    : Nat
  clock         : Nat
  silent        : Bool
  restarted     : Bool
  hold          : Bool
  captureHeld   : Bool
  depth         : Nat
  nextSeq       : Nat
  spend         : Nat
  cap           : Nat
  ceiling       : Nat
  pinSet        : Bool
  lockedOut     : Bool
  strict        : Bool
  frozen        : Bool
  ports         : Vector PortStatus 4
  formatFaults  : Nat
  checkFailures : Nat
  refusals      : Nat
  overruns      : Nat
  dropped       : Nat
  marksIgnored  : Nat
  keysReplaced  : Nat
  keysDisplaced : Nat
  lastRefusal   : Option LastRefusal
  lastClosed    : Option ClosedStay
  deriving DecidableEq, Repr

/-- R156, R158: what a return unit carries beside the summary. -/
inductive ReturnContent where
  | billing (records : List BillingRecord)
  | capture (record : Option Capture)
  deriving DecidableEq, Repr

/-- R156, R158: a composed return unit. -/
structure ReturnUnit where
  summary : Summary
  content : ReturnContent
  deriving DecidableEq, Repr

/-- R19: a return unit whose transmission has begun, with the continuity count FI stamped on it. -/
structure SentReturn where
  count : Nat
  unit  : ReturnUnit
  deriving DecidableEq, Repr

/-- R19; the waiting list is oldest first. -/
structure FeedInterface where
  sending   : Option SentReturn
  waiting   : List ReturnUnit
  dropped   : Nat
  nextCount : Nat
  deriving DecidableEq, Repr

/-! ## Link units and the Room Link Interface -/

/-- R94: the fields of a port notice. -/
structure NoticeFields where
  state    : PortState
  reason   : Option BlankReason
  home     : Option Channel
  shown    : Option Channel
  delivery : Option Delivery
  deriving DecidableEq, Repr

/-- R48: a listing entry. -/
structure ListEntry where
  port        : Port
  channel     : Channel
  tier        : Tier
  rating      : Nat
  entitled    : Bool
  priced      : Bool
  charge      : Nat
  offPeak     : Bool
  purchased   : Bool
  remaining   : Nat
  previewLeft : Nat
  deriving DecidableEq, Repr

/-- R166: the reply codes, in the order that numbers them 0 to 19 (R174). -/
inductive ReplyCode where
  | ok
  | shared
  | alertActive
  | noChannel
  | notOccupied
  | notFilm
  | noPrice
  | locked
  | hold
  | tableFull
  | silentLimit
  | cap
  | nothingToCancel
  | graceOver
  | wrongPin
  | lockoutStarted
  | lockout
  | frozen
  | noPin
  | badRequest
  deriving DecidableEq, Repr

/-- R168: the room as the QUERY_ROOM reply carries it. Times are the seconds left. -/
structure RoomReport where
  occupancy : Occupancy
  alert     : Option (Channel × Nat)
  ceiling   : Nat
  pinSet    : Bool
  lockout   : Option Nat
  strict    : Bool
  frozen    : Bool
  unlocks   : Vector (Option Nat) 4
  spend     : Nat
  cap       : Nat
  deriving DecidableEq, Repr

/-- R163: a reply; the kind is echoed as received, and only QUERY_ROOM's carries a report. -/
structure Reply where
  port   : Byte
  kind   : Byte
  code   : ReplyCode
  detail : Nat
  report : Option RoomReport
  deriving DecidableEq, Repr

/-- R163: the units the part sends to the room sets. -/
inductive LinkUnit where
  | programme (port : Port) (stream : Nat) (count : Nat) (body : Vector Byte 88)
  | blank (port : Port) (reason : BlankReason) (home : Channel)
  | notice (port : Port) (fields : NoticeFields)
  | listEntry (entry : ListEntry)
  | reply (reply : Reply)
  deriving DecidableEq, Repr

/-- R164, R167. `transmit` is oldest first. Two fields are the MODEL's own. `held` (notes/assumptions/7.md) are the request
units that the room sets hold back while 8 requests are unanswered, oldest first. `ahead` (notes/assumptions/29.md) is how
many units at the head of the list the units of a later event must stand behind. -/
structure RoomLink where
  transmit   : List LinkUnit
  sending    : Option LinkUnit
  unanswered : Nat
  held       : List Unit96
  ahead      : Nat
  deriving DecidableEq, Repr

/-! ## The whole part -/

/-- The MODEL's own (notes/assumptions/4.md): where an event reads an order that the spec leaves open. The draws are the
numbers on `tape`, and past its end the values of `Config.freeOrder`, of which `used` counts how many have been read. -/
structure Choices where
  tape : List Nat
  used : Nat
  deriving DecidableEq, Repr

/-- All twelve blocks (the four lanes of DS carry no state, R71), the strapped room number as read at power-on, and the
MODEL's own fields: `choices`, the free value for every order the spec leaves open (notes/assumptions/4.md), and
`pending`, the commands that wait, first in, first out. -/
structure State where
  su      : StayUnit
  fi      : FeedInterface
  sf      : StreamFilter
  md      : ManagementDecoder
  tm      : TableMemory
  ks      : KeyStore
  pc      : PortController
  lu      : LockUnit
  pu      : PurchaseUnit
  bq      : BillingQueue
  rl      : RoomLink
  room    : BitVec 14
  choices : Choices
  pending : List Instr
  deriving DecidableEq, Repr

/-- R15. -/
def StayUnit.reset : StayUnit where
  occupancy    := .vacant
  stayNumber   := 0
  spend        := 0
  cap          := 0
  packages     := 0
  discretion   := false
  group        := 0
  vacantFirst  := 0
  vacantLast   := 0
  restarted    := true
  lastClosed   := none
  clock        := 0
  marksIgnored := 0
  silenceCount := 0
  silent       := true
  alert        := none

/-- R54, R70: a set after power-on reset, ROOM_RESET or a purge of all groups. -/
def KeySet.empty : KeySet where
  way0   := none
  way1   := none
  recent := .way0

/-- The part right after power-on reset: R15, R19, R20, R22, R26, R30, R32, R45, R70, R102, R124, R142, R162, R170. -/
def State.reset : State where
  su      := StayUnit.reset
  fi      := { sending := none, waiting := [], dropped := 0, nextCount := 0 }
  sf      := { remap := Vector.replicate 8 none, formatFaults := 0 }
  md      := { burst := none, capture := none, lastRefusal := none, checkFailures := 0, refusals := 0, overruns := 0 }
  tm      := { services := Vector.replicate 256 none, prices := Vector.replicate 32 none }
  ks      := { sets := Vector.replicate 32 KeySet.empty, slot := none, replaced := 0, displaced := 0 }
  pc      := { ports := Vector.replicate 4 .off, previews := [] }
  lu      := { ceiling := 5, pin := none, failures := 0, lockout := none, strict := none, frozen := false,
               unlocks := Vector.replicate 4 none }
  pu      := { purchases := [], silentCount := 0 }
  bq      := { queue := [], nextSeq := 0, high := 40, low := 32, hold := false }
  rl      := { transmit := [], sending := none, unanswered := 0, held := [], ahead := 0 }
  room    := Config.resetRoom
  choices := { tape := [], used := 0 }
  pending := []

/-- The part has no fault stop: the spec counts, refuses or answers every bad unit and goes on, so no command faults and
this type has no constructor (safe: a run never ends here). -/
inductive Fault where
  deriving DecidableEq, Repr

/-- Why the model has no meaning for a command term. -/
inductive Refusal where
  /-- Raised by `exec` for a row that has no meaning yet; safe, since nothing is claimed of the row. -/
  | notModelled (mnemonic : String)
  /-- Raised by a row's meaning when the unit it is given does not spell that row (`Instr.wellFormed` is false of it):
  no such command reaches the part under that name. Safe: the model stops (notes/assumptions/9.md). -/
  | unitOfAnotherRow
  deriving DecidableEq, Repr

end Sys2Proof.Machine
end

