-- ==== Sys2Proof/Machine/Flags.lean ====
section
/-! DEFINITION. The flags and counters of the part: how a counter is raised, how a due time is held, how the hold flag
is worked out, and what the lock condition is. -/

namespace Sys2Proof.Machine

/-- 00_scope, "Numbers": a 16-bit counter raised by one, saturating at 65,535. -/
def raiseCounter (n : Nat) : Nat := min (n + 1) counterMax

/-- R10: a due time computed above the last clock value is held there. -/
def holdDue (t : Nat) : Nat := min t clockMax

/-- "Clamped to a to b" (00_scope, "Numbers"). -/
def clampTo (low high n : Nat) : Nat := max low (min n high)

/-- R154, R155: the hold flag against a depth: set at or above the high mark, clear at or below the low mark, else kept. -/
def holdTest (high low depth : Nat) (hold : Bool) : Bool :=
  if high ≤ depth then true else if depth ≤ low then false else hold

/-- R106: the failure budget, 2 while strict mode is on and 5 while it is off. -/
def LockUnit.budget (lu : LockUnit) : Nat := if lu.strict.isSome then 2 else 5

/-- R1: the vacant window is inclusive, and wraps when first is above last. -/
def inWindow (first last c : Channel) : Bool :=
  if first ≤ last then first ≤ c && c ≤ last else first ≤ c || c ≤ last

/-- R164: the receive direction of the link is held while 8 requests are unanswered. -/
def RoomLink.receiveHeld (rl : RoomLink) : Bool := requestMax ≤ rl.unanswered

end Sys2Proof.Machine
end

