-- ==== Sys2Proof/Machine/Operands.lean ====
section
/-! DEFINITION. The operands of the commands as their owners read them from a unit: management fields and table entries
with their clamps (R22, R37, R42, R172, R173) and request fields with RL's checks (R165, R174, R175). -/

namespace Sys2Proof.Machine

/-- A byte as a channel number. -/
def channelOf (n : Nat) : Channel := Fin.ofNat 256 n

/-! ## Management units -/

/-- R27, R172: body bytes 0 to 1. -/
def destination (u : Unit96) : Nat := u.word16 0

/-- R172: body byte 2, the kind as received. -/
def kindByte (u : Unit96) : Byte := u.byte 2

/-- R172, CLOCK_MARK: hotel time T. -/
def markTime (u : Unit96) : Nat := u.word32 3

/-- R172, KEY_LOAD and KEY_PURGE: the key group field. -/
def keyGroupField (u : Unit96) : Nat := u.word16 3

/-- R172, KEY_LOAD: the phase field; R173 refuses every code but 1 and 2. -/
def keyPhaseField (u : Unit96) : Option KeyPhase :=
  match (u.byte 5).toNat with
  | 1 => some .a
  | 2 => some .b
  | _ => none

/-- R172, KEY_LOAD: the control word, K_seed in bytes 6 to 9 above K_mask in bytes 10 to 13 (R73). -/
def controlWord (u : Unit96) : BitVec 64 := BitVec.ofNat 64 (u.word32 6 * 4294967296 + u.word32 10)

/-- R172, KEY_LOAD: the expiry. -/
def keyExpiry (u : Unit96) : Nat := u.word32 14

/-- R173: KEY_LOAD is refused BAD_FIELD for a group of 1,023 or above or a phase other than 1 or 2. -/
def keyLoadFieldsOk (u : Unit96) : Bool := keyGroupField u ≤ 1022 && (keyPhaseField u).isSome

/-- R173: KEY_PURGE without the all-groups flag is refused BAD_FIELD for a group of 1,023 or above. -/
def keyPurgeFieldsOk (u : Unit96) : Bool := keyGroupField u ≤ 1022

/-- R172, TABLE_OPEN: the table code; R173 refuses every code but 1 to 3. -/
def tableField (u : Unit96) : Option Table :=
  match (u.byte 3).toNat with
  | 1 => some .service
  | 2 => some .price
  | 3 => some .remap
  | _ => none

/-- R33: the last index of each table. -/
def Table.lastIndex : Table → Nat
  | .service => 255
  | .price => 31
  | .remap => 7

/-- R34: the greatest entry count of a TABLE_DATA for each table. -/
def Table.maxEntries : Table → Nat
  | .service => 8
  | .price => 6
  | .remap => 8

/-- R172, "Table entries": the size of an entry. -/
def Table.entrySize : Table → Nat
  | .service => 10
  | .price => 13
  | .remap => 7

/-- R172, STAY_OPEN. -/
structure StayOpenFields where
  ceiling    : Nat
  freeze     : Bool
  discretion : Bool
  cap        : Nat
  packages   : BitVec 16
  deriving DecidableEq, Repr

/-- R3, R172, R173: the fields of STAY_OPEN, the ceiling clamped to 7 and the cap to 10,000,000. -/
def stayOpenFields (u : Unit96) : StayOpenFields where
  ceiling    := min (u.byte 3).toNat 7
  freeze     := u.bit 4 0
  discretion := u.bit 4 1
  cap        := min (u.word32 5) moneyMax
  packages   := BitVec.ofNat 16 (u.word16 9)

/-- R172, ROOM_SETTINGS. -/
structure SettingsFields where
  group        : Fin 256
  cap          : Nat
  high         : Nat
  low          : Nat
  discretion   : Bool
  clearCapture : Bool
  packages     : BitVec 16
  vacantFirst  : Channel
  vacantLast   : Channel
  deriving DecidableEq, Repr

/-- R154: the high mark as BQ stores it. -/
def clampHigh (high : Nat) : Nat := clampTo 8 40 high

/-- R154: the low mark as BQ stores it, against the stored high mark. -/
def clampLow (storedHigh low : Nat) : Nat := min low (storedHigh - 1)

/-- R7, R154, R172, R173: the fields of ROOM_SETTINGS, the cap and the marks clamped. -/
def settingsFields (u : Unit96) : SettingsFields where
  group        := Fin.ofNat 256 (u.byte 3).toNat
  cap          := min (u.word32 4) moneyMax
  high         := clampHigh (u.byte 8).toNat
  low          := clampLow (clampHigh (u.byte 8).toNat) (u.byte 9).toNat
  discretion   := u.bit 10 0
  clearCapture := u.bit 10 1
  packages     := BitVec.ofNat 16 (u.word16 11)
  vacantFirst  := channelOf (u.byte 13).toNat
  vacantLast   := channelOf (u.byte 14).toNat

/-- R119, R172: SET_CEILING's value, clamped to 7. -/
def ceilingValue (u : Unit96) : Nat := min (u.byte 4).toNat 7

/-- R173: LOCK_ORDER is refused BAD_FIELD for an order other than 1 to 6. -/
def orderOk (u : Unit96) : Bool := 1 ≤ u.order && u.order ≤ 6

/-- R172: HOUSE_ALERT's channel. -/
def alertChannel (u : Unit96) : Channel := channelOf (u.byte 3).toNat

/-- R12: HOUSE_ALERT's duration, clamped to 1 to 3,600. -/
def alertSeconds (u : Unit96) : Nat := clampTo 1 alertMax u.duration

/-- R173: POLL is refused BAD_FIELD for a variant other than 1 or 2. -/
def variantOk (u : Unit96) : Bool := u.variant == 1 || u.variant == 2

/-- R160, R172: RELEASE's sequence number. -/
def releaseSeq (u : Unit96) : Nat := u.word16 3

/-! ## Table entries -/

/-- R172: the tier code with its package number, title code and price code. -/
def tierField (code : Nat) (package : Fin 16) (title : Nat) (price : PriceCode) : Tier :=
  match code % 4 with
  | 0 => .house
  | 1 => .free
  | 2 => .package package
  | _ => .film title price

/-- R172, R173: a key group in a service entry, bits 9 to 0; 1,023 is NONE. -/
def serviceGroup (n : Nat) : Option Nat := if n % 1024 = 1023 then none else some (n % 1024)

/-- R37: a Service Map entry as TM stores it, read at body byte `n`. -/
def serviceEntry (u : Unit96) (n : Nat) : Option Service :=
  let flags := (u.byte n).toNat
  let stream := u.word16 (n + 1) % 4096
  let title := u.word16 (n + 6)
  let tier := tierField (flags / 2) (Fin.ofNat 16 (flags / 16)) title (Fin.ofNat 32 (u.byte (n + 8)).toNat)
  if !u.bit n 0 || stream == 0 || stream == 4095 then none
  else some {
    tier     := match tier with
      | .film 0 _ => .free
      | t => t
    stream   := stream
    keyGroup := serviceGroup (u.word16 (n + 3))
    rating   := min (u.byte (n + 5)).toNat 7 }

/-- R42: a Price Table entry as TM stores it, read at body byte `n`. -/
def priceEntry (u : Unit96) (n : Nat) : Option PriceEntry :=
  let band := u.word24 (n + 4)
  if !u.bit (n + 8) 7 then none
  else some {
    standard  := u.word16 n
    offPeak   := u.word16 (n + 2)
    bandStart := min (band / 4096) 1439
    bandEnd   := min (band % 4096) 1439
    tax       := min (u.byte (n + 7)).toNat 250
    preview   := min (u.word16 (n + 8) % 32768) 600
    window    := clampTo 600 86400 (u.word24 (n + 10)) }

/-- R22: the count as SF stores it: 0 as 1, above 256 as 256, then lowered to keep both ranges at or below 4094. -/
def clampRemapCount (first target count : Nat) : Nat :=
  min (clampTo 1 256 count) (min (4095 - first) (4095 - target))

/-- R22: a Stream Remap Table entry as SF stores it, read at body byte `n`. -/
def remapEntry (u : Unit96) (n : Nat) : Option RemapEntry :=
  let first := u.word16 (n + 1) % 4096
  let target := u.word16 (n + 5) % 4096
  if !u.bit n 0 || first == 0 || first == 4095 || target == 0 || target == 4095 then none
  else some { first := first, count := clampRemapCount first target (u.word16 (n + 3)), target := target }

/-- R172, TABLE_DATA: the tag. -/
def dataTag (u : Unit96) : Byte := u.byte 3

/-- R172, TABLE_DATA: the entry count. -/
def dataCount (u : Unit96) : Nat := (u.byte 4).toNat

/-- R172, TABLE_DATA: where entry `i` of a table's format begins. -/
def Table.entryAt (t : Table) (i : Nat) : Nat := 5 + t.entrySize * i

/-! ## Request units -/

/-- R174: the request kind, body byte 0, as received. -/
def requestKind (u : Unit96) : Byte := u.byte 0

/-- R165: the kinds of request that name a port. -/
def namesPort (kind : Nat) : Bool := [1, 2, 3, 4, 5, 8, 9, 10].contains kind

/-- R163: the port field of a request's reply: the port named, or 0 for a kind that names none. -/
def replyPort (u : Unit96) : Byte := if namesPort (requestKind u).toNat then u.header[1] else 0

/-- R165: the named port is 0 to 3. -/
def portOk (u : Unit96) : Bool := u.header[1].toNat ≤ 3

/-- R174: the port named, header byte 1. -/
def portField (u : Unit96) : Port := Fin.ofNat 4 u.header[1].toNat

/-- R165: the channel field, body bytes 1 to 2, is 0 to 255. -/
def channelOk (u : Unit96) : Bool := u.word16 1 ≤ 255

/-- R174: TUNE's and BUY's channel, LIST's first channel. -/
def channelField (u : Unit96) : Channel := channelOf (u.word16 1)

/-- R174: LIST's count. -/
def listCount (u : Unit96) : Nat := (u.byte 3).toNat

/-- R46, R165: LIST's count is 1 to 16. -/
def listCountOk (u : Unit96) : Bool := 1 ≤ listCount u && listCount u ≤ 16

/-- R174: the digits of the PIN field at body byte `n`: the first count of its eight digit bytes. -/
def pinField (u : Unit96) (n : Nat) : List Nat :=
  (List.range (u.byte n).toNat).map fun i => (u.byte (n + 1 + i)).toNat

/-- R107, R165, R175: a PIN field's count is at most 8 and its digits are at most 9; bytes beyond the count are not
examined. -/
def pinOk (u : Unit96) (n : Nat) : Bool := (u.byte n).toNat ≤ 8 && (pinField u n).all (· ≤ 9)

/-- R108, R174: PIN_UNLOCK's minutes, clamped to 1 to 240. -/
def unlockMinutes (u : Unit96) : Nat := clampTo 1 240 (u.word16 1)

/-- R110, R174: CEILING's value, clamped to 7. -/
def ceilingField (u : Unit96) : Nat := min (u.byte 1).toNat 7

end Sys2Proof.Machine
end

