-- ==== Sys2Proof/Machine/Ops.lean ====
section
/-! DEFINITION. The shared operations on the state that every block uses: reading the port records and tables, choosing
an order the spec leaves open, placing link units, and recording refusals and check failures. -/

namespace Sys2Proof.Machine

/-! ## Reading -/

/-- P0 to P3, in ascending order. -/
def allPorts : List Port := [0, 1, 2, 3]

/-- R82: the record of a port. -/
def State.port (s : State) (p : Port) : PortRecord := s.pc.ports[p]

/-- R36: the Service Map entry of a channel. -/
def State.entry (s : State) (c : Channel) : Option Service := s.tm.services[c]

/-- R41: the Price Table entry of a price code. -/
def State.price (s : State) (k : PriceCode) : Option PriceEntry := s.tm.prices[k]

/-- R82: the home channel, held in every state but OFF. -/
def PortRecord.home : PortRecord → Option Channel
  | .off => none
  | .active _ home _ _ _ => some home
  | .blanked _ home _ => some home

/-- 00_scope: a port in PLAYING, PREVIEW or ALERT is active. -/
def PortRecord.isActive : PortRecord → Bool
  | .active _ _ _ _ _ => true
  | _ => false

/-- A port in OFF. -/
def PortRecord.isOff : PortRecord → Bool
  | .off => true
  | _ => false

/-- A port in ALERT. -/
def PortRecord.isAlert : PortRecord → Bool
  | .active .alert _ _ _ _ => true
  | _ => false

/-- R82: the delivery condition, held in the active states. -/
def PortRecord.delivery : PortRecord → Option Delivery
  | .active _ _ _ d _ => some d
  | _ => none

/-- R82: the name of a port's state. -/
def PortRecord.state : PortRecord → PortState
  | .off => .off
  | .active .playing _ _ _ _ => .playing
  | .active .preview _ _ _ _ => .preview
  | .active .alert _ _ _ _ => .alert
  | .blanked _ _ _ => .blanked

/-- R82: the blank reason, held in BLANKED. -/
def PortRecord.reason : PortRecord → Option BlankReason
  | .blanked r _ _ => some r
  | _ => none

/-- R82: the shown channel: the alert channel in ALERT, the home channel in PLAYING, PREVIEW and BLANKED. -/
def PortRecord.shown (r : PortRecord) (alert : Option Alert) : Option Channel :=
  if r.isAlert then alert.map (·.channel) else r.home

/-- R94: the fields a notice of a port carries. -/
def PortRecord.noticeFields (r : PortRecord) (alert : Option Alert) : NoticeFields where
  state    := r.state
  reason   := r.reason
  home     := r.home
  shown    := r.shown alert
  delivery := r.delivery

/-- R94: a port's notice as the state stands. -/
def State.notice (s : State) (p : Port) : NoticeFields := (s.port p).noticeFields s.su.alert

/-- R82: the channel whose entry serves an active port: the alert channel in ALERT, else the home channel. -/
def State.serviceChannel (s : State) : View → Channel → Option Channel
  | .alert, _ => s.su.alert.map (·.channel)
  | _, home => some home

/-- R82: the service of a view of a home channel; none where the channel's entry is ABSENT. -/
def State.serviceOf (s : State) (v : View) (home : Channel) : Option Service :=
  (s.serviceChannel v home).bind s.entry

/-- R82: a port's service; a port in OFF or BLANKED has none. -/
def State.service (s : State) (p : Port) : Option Service :=
  match s.port p with
  | .active v home _ _ _ => s.serviceOf v home
  | _ => none

/-- R56: the service key group of an active port; none also for NONE. -/
def State.serviceGroup (s : State) (p : Port) : Option Nat := (s.service p).bind (·.keyGroup)

/-- The title of a FILM tier. -/
def Tier.title : Tier → Option Nat
  | .film t _ => some t
  | _ => none

/-- R40: the title that a channel's entry carries as it stands: FILM tier only. -/
def State.titleOn (s : State) (c : Channel) : Option Nat := (s.entry c).bind (·.tier.title)

/-- R40, R88: the port's home channel carries the title. -/
def State.carries (s : State) (p : Port) (title : Nat) : Bool := (s.port p).home.bind s.titleOn == some title

/-- R82: the title a port in PREVIEW is previewing. -/
def State.previewing (s : State) (p : Port) : Option Nat :=
  match s.port p with
  | .active .preview home _ _ _ => s.titleOn home
  | _ => none

/-- R96, R97: at least one port is previewing the title. -/
def State.isPreviewed (s : State) (title : Nat) : Bool := allPorts.any fun p => s.previewing p == some title

/-- R96: the title's record in the Preview List. -/
def State.previewRecord (s : State) (title : Nat) : Option Preview := s.pc.previews.find? (·.title == title)

/-- R125: the open purchase that holds the title. -/
def State.purchase (s : State) (title : Nat) : Option Purchase := s.pu.purchases.find? (·.title == title)

/-- R106: 7 while the port has an unlock in force, and the room's ceiling otherwise. -/
def State.effectiveCeiling (s : State) (p : Port) : Nat := if s.lu.unlocks[p].isSome then 7 else s.lu.ceiling

/-- R1: the room is OCCUPIED. -/
def State.isOccupied (s : State) : Bool := s.su.occupancy == .occupied

/-! ## Writing -/

/-- R82: a port record replaced. -/
def State.setPort (s : State) (p : Port) (r : PortRecord) : State :=
  { s with pc := { s.pc with ports := s.pc.ports.set p r } }

/-- R105: a port's unlock field replaced. -/
def State.setUnlock (s : State) (p : Port) (t : Option Nat) : State :=
  { s with lu := { s.lu with unlocks := s.lu.unlocks.set p t } }

/-! ## An order the spec leaves open (notes/assumptions/4.md) -/

/-- One free number below `n`, and the choices that are left. -/
def drawFrom (n : Nat) (c : Choices) : Nat × Choices :=
  match c.tape with
  | [] => (Config.freeOrder c.used % n, { c with used := c.used + 1 })
  | k :: ks => (k % n, { c with tape := ks })

/-- A list in a free order; a number is drawn only where there is more than one order. -/
def shuffle {α : Type} : List α → Choices → List α × Choices
  | [], c => ([], c)
  | [x], c => ([x], c)
  | x :: xs, c =>
    let (ys, rest) := shuffle xs c
    let (k, rest) := drawFrom (ys.length + 1) rest
    (ys.insertIdx k x, rest)

/-- Two lists in one, each keeping its own order, which units of the second stand before each of the first being free; a
number is drawn only where there is more than one order. -/
def interleave {α : Type} : List α → List α → Choices → List α × Choices
  | [], ys, c => (ys, c)
  | x :: xs, [], c => (x :: xs, c)
  | x :: xs, ys, c =>
    let (k, rest) := drawFrom (ys.length + 1) c
    let (zs, rest) := interleave xs (ys.drop k) rest
    (ys.take k ++ x :: zs, rest)

/-- The ports that pass a test, in a free order (R89). -/
def State.arranged (s : State) (test : Port → Bool) : List Port := (shuffle (allPorts.filter test) s.choices).1

/-- The choices left after the ports that pass a test have been put in order. -/
def State.afterArranging (s : State) (test : Port → Bool) : State :=
  { s with choices := (shuffle (allPorts.filter test) s.choices).2 }

/-! ## The transmit list (R167) -/

/-- R167: a notice, a listing entry or a reply joins the tail of the list. -/
def State.send (s : State) (u : LinkUnit) : State :=
  { s with rl := { s.rl with transmit := s.rl.transmit ++ [u] } }

/-- R167: a programme or blank unit joins the list only while fewer than 64 units wait in it. -/
def State.sendData (s : State) (u : LinkUnit) : State :=
  if s.rl.transmit.length < linkDataMax then s.send u else s

/-- R94: one notice for a port and an event, when a field it carries differs from before the event. -/
def State.notifyChange (s before : State) (p : Port) : State :=
  if s.notice p = before.notice p then s else s.send (.notice p (s.notice p))

/-- R167: a unit joins the list, as its kind does. -/
def State.join (s : State) : LinkUnit → State
  | .programme p stream count body => s.sendData (.programme p stream count body)
  | .blank p r home => s.sendData (.blank p r home)
  | u => s.send u

/-- R93, R94: the units that an event makes for a port, `before` being the state before it: a notice when a field of it
differs, and then the first blank unit of a port that has come to BLANKED, or to another reason or home channel there. -/
def State.unitsFor (s before : State) (p : Port) : List LinkUnit :=
  (if s.notice p = before.notice p then [] else [.notice p (s.notice p)]) ++
    match s.port p with
    | .blanked r c _ =>
      if (before.port p).reason = some r ∧ (before.port p).home = some c then [] else [.blank p r c]
    | _ => []

/-- R89, R95: the units that an event makes, each port's in their own order and the ports' among one another in a free one
(notes/assumptions/15.md). -/
def State.eventUnits (s before : State) : List LinkUnit × Choices :=
  allPorts.foldl (fun (made, c) p => interleave (s.unitsFor before p) made c) ([], s.choices)

/-- R94, R95: at the end of an event its units join the list. -/
def State.announce (s before : State) : State :=
  let (made, rest) := s.eventUnits before
  made.foldl State.join { s with choices := rest }

/-- The port that a notice, a blank unit or a programme unit is for. -/
def LinkUnit.portOf : LinkUnit → Option Port
  | .programme p _ _ _ => some p
  | .blank p _ _ => some p
  | .notice p _ => some p
  | _ => none

/-- R95: how many of an event's units, from the first, may stand before some waiting ones: up to the first that is for a
port with a unit among these, since the units of one port leave in the order of the events. -/
def freeBefore (waiting units : List LinkUnit) : Nat :=
  (units.takeWhile fun u => waiting.all fun w => w.portOf != u.portOf).length

/-- R95, R167: an event's units among those of a request that still wait, in a free order within R95: the list up to the
last of the event's units, and what waits behind it. A number is drawn only where there is more than one order. -/
def fallIn : List LinkUnit → List LinkUnit → Choices → (List LinkUnit × List LinkUnit) × Choices
  | [], units, c => ((units, []), c)
  | w :: waiting, units, c =>
    let free := freeBefore (w :: waiting) units
    let (k, rest) := if free = 0 then (0, c) else drawFrom (free + 1) c
    if units.length ≤ k then ((units, w :: waiting), rest)
    else
      let ((mixed, behind), rest) := fallIn waiting (units.drop k) rest
      ((units.take k ++ w :: mixed, behind), rest)

/-- R95, R167: an event not tied to a request, with where its units come to stand: at the tail of the list, or between the
units of the request taken last (notes/assumptions/29.md). -/
def State.untied (s : State) (event : State → State) : State :=
  let t := event s
  let ((mixed, behind), rest) :=
    fallIn (s.rl.transmit.drop s.rl.ahead) (t.rl.transmit.drop s.rl.transmit.length) t.choices
  { t with
    rl := { t.rl with
      transmit := s.rl.transmit.take s.rl.ahead ++ (mixed ++ behind)
      ahead    := s.rl.ahead + mixed.length }
    choices := rest }

/-- R103, R142, R170: an event whose units stand behind all that waits, and behind which a later event's stand: a ROOM_RESET,
and what falls due when a request is complete (notes/assumptions/27.md, 29.md). -/
def State.atTail (s : State) (event : State → State) : State :=
  let t := event s
  { t with rl := { t.rl with
      ahead := if t.rl.transmit.length = s.rl.transmit.length then s.rl.ahead else t.rl.transmit.length } }

/-! ## Management outcomes -/

/-- R30: a refusal of an accepted management unit. -/
def State.refuse (s : State) (u : Unit96) (reason : RefusalReason) : State :=
  { s with md := { s.md with
      refusals := raiseCounter s.md.refusals
      lastRefusal := some { kind := kindByte u, reason := reason, clock := s.su.clock } } }

/-- R26: a unit that fails the check raises the counter and is captured when the record is empty. -/
def State.failCheck (s : State) (u : Unit96) : State :=
  { s with md := { s.md with
      checkFailures := raiseCounter s.md.checkFailures
      capture := s.md.capture.or (some {
        header := u.header
        body := Vector.ofFn fun i => u.byte i
        clock := s.su.clock }) } }

/-- R35: an open burst closes; no write is undone. -/
def State.closeBurst (s : State) : State := { s with md := { s.md with burst := none } }

/-- R27: the unit is accepted by its destination. -/
def State.accepts (s : State) (u : Unit96) : Bool :=
  let d := destination u
  if d = 0 then true
  else if d ≤ 16383 then d == s.room.toNat
  else if d ≤ 16639 then s.room != 0 && d == 16384 + s.su.group.val
  else false

/-- R29: the unit is addressed to this room's number. -/
def State.addressedToRoom (s : State) (u : Unit96) : Bool :=
  destination u != 0 && destination u == s.room.toNat

/-- R31: what MD knows of a kind before its owner sees the unit. -/
structure MgmtRow where
  closesBurst : Bool
  roomOnly    : Bool
  fieldsOk    : Bool
  deriving DecidableEq, Repr

/-- R25 to R31, R35: how MD takes a management unit: the check word, the destination, the burst's closing, the fields,
the room's address, and then the owner. -/
def State.manage (s : State) (u : Unit96) (row : MgmtRow) (owner : State → State) : State :=
  if !u.checkOk then s.failCheck u
  else if !s.accepts u then s
  else
    let s := if row.closesBurst then s.closeBurst else s
    if !row.fieldsOk then s.refuse u .badField
    else if row.roomOnly && !s.addressedToRoom u then s.refuse u .roomOnly
    else owner s

/-! ## The outcome of a row -/

/-- A row's meaning runs on a unit that spells the row and stops by name on any other (notes/assumptions/9.md). -/
def asRow (spelled : Bool) (s : State) : Host.Outcome State Fault Refusal :=
  if spelled then .next s else .refused .unitOfAnotherRow

end Sys2Proof.Machine
end

