-- ==== Sys2Proof/Machine/Keys.lean ====
section
/-! DEFINITION. The Key Store: lookup (R65), placement of a KEY_LOAD (R58 to R62), pinning (R56), migration (R63, R64),
phase expiry (R57) and purges (R67, R68). -/

namespace Sys2Proof.Machine

/-- R51: key group g belongs to set g mod 32. -/
def setOf (group : Nat) : Fin 32 := Fin.ofNat 32 group

/-- R51: one phase of an entry. -/
def KeyEntry.phase (e : KeyEntry) : KeyPhase → Option PhaseKey
  | .a => e.phaseA
  | .b => e.phaseB

/-- One phase of an entry replaced. -/
def KeyEntry.setPhase (e : KeyEntry) (k : Option PhaseKey) : KeyPhase → KeyEntry
  | .a => { e with phaseA := k }
  | .b => { e with phaseB := k }

/-- R60: the entry a KEY_LOAD makes for a group not held: the loaded phase, and the other phase invalid. -/
def KeyEntry.fresh (group : Nat) (phase : KeyPhase) (k : PhaseKey) : KeyEntry :=
  (KeyEntry.mk group none none).setPhase (some k) phase

/-- R51: one way of a set. -/
def KeySet.way (st : KeySet) : Way → Option KeyEntry
  | .way0 => st.way0
  | .way1 => st.way1

/-- One way of a set replaced; the recency mark stays. -/
def KeySet.setWay (st : KeySet) (e : Option KeyEntry) : Way → KeySet
  | .way0 => { st with way0 := e }
  | .way1 => { st with way1 := e }

/-- R54: the way the recency mark does not name. -/
def KeySet.lessRecent (st : KeySet) : Way :=
  match st.recent with
  | .way0 => .way1
  | .way1 => .way0

/-- Whether a place holds the group. -/
def holdsGroup (place : Option KeyEntry) (group : Nat) : Bool := place.any (·.group == group)

/-- R53: where a group is held. -/
inductive Place where
  | way (w : Way)
  | slot
  deriving DecidableEq, Repr

/-- R53, R65: the two ways of the group's set and the arrival slot are searched. -/
def KeyStore.locate (ks : KeyStore) (group : Nat) : Option Place :=
  let st := ks.sets[setOf group]
  if holdsGroup st.way0 group then some (.way .way0)
  else if holdsGroup st.way1 group then some (.way .way1)
  else if holdsGroup ks.slot group then some .slot
  else none

/-- The set of a group replaced. -/
def KeyStore.setSet (ks : KeyStore) (group : Nat) (st : KeySet) : KeyStore :=
  { ks with sets := ks.sets.set (setOf group) st }

/-- The entry at a place of the group's set or the slot. -/
def KeyStore.at (ks : KeyStore) (group : Nat) : Place → Option KeyEntry
  | .way w => ks.sets[setOf group].way w
  | .slot => ks.slot

/-- The entry at a place replaced; no recency mark changes. -/
def KeyStore.put (ks : KeyStore) (group : Nat) (e : Option KeyEntry) : Place → KeyStore
  | .way w => ks.setSet group (ks.sets[setOf group].setWay e w)
  | .slot => { ks with slot := e }

/-- R55: an entry with no valid phase is free. -/
def KeyEntry.orFree (e : KeyEntry) : Option KeyEntry :=
  if e.phaseA.isNone && e.phaseB.isNone then none else some e

/-- R54: a way of the group's set is marked as the more recently used. -/
def KeyStore.mark (ks : KeyStore) (group : Nat) (w : Way) : KeyStore :=
  ks.setSet group { ks.sets[setOf group] with recent := w }

/-- R54, R60, R61, R63: an entry placed in a way marks that way. -/
def KeyStore.placeInWay (ks : KeyStore) (e : KeyEntry) (w : Way) : KeyStore :=
  (ks.put e.group (some e) (.way w)).mark e.group w

/-- R69: keys replaced is raised by one. -/
def KeyStore.countReplaced (ks : KeyStore) : KeyStore := { ks with replaced := raiseCounter ks.replaced }

/-- R69: keys displaced is raised by one. -/
def KeyStore.countDisplaced (ks : KeyStore) : KeyStore := { ks with displaced := raiseCounter ks.displaced }

/-- R65: the word a lookup gives, none for KEY_MISS. -/
def KeyStore.lookupWord (ks : KeyStore) (group : Nat) (phase : KeyPhase) : Option (BitVec 64) :=
  ((ks.locate group).bind (ks.at group)).bind fun e => (e.phase phase).map (·.word)

/-- R65: a lookup that finds its group in a way marks that way, whatever the phase. -/
def KeyStore.lookupMark (ks : KeyStore) (group : Nat) : KeyStore :=
  match ks.locate group with
  | some (.way w) => ks.mark group w
  | _ => ks

/-! ## Pinning and migration -/

/-- R56: the group is the service key group of an active port (DEDUCED, notes/assumptions/11.md). -/
def State.pinned (s : State) (group : Nat) : Bool := allPorts.any fun p => s.serviceGroup p == some group

/-- R56: a way is pinned while its group is. -/
def State.wayPinned (s : State) (way : Option KeyEntry) : Bool := way.any fun e => s.pinned e.group

/-- R61, R63, R64: of two held ways, the one that may be given up: the unpinned one, or of two unpinned ways the less
recently used; none while both are pinned. -/
def State.victim (s : State) (st : KeySet) : Option Way :=
  match s.wayPinned st.way0, s.wayPinned st.way1 with
  | true, true => none
  | true, false => some .way1
  | false, true => some .way0
  | false, false => some st.lessRecent

/-- R60: the free way of a set, way 0 first. -/
def KeySet.freeWay (st : KeySet) : Option Way :=
  if st.way0.isNone then some .way0 else if st.way1.isNone then some .way1 else none

/-- R63, R64: at the end of an event, the slot's entry moves into a way of its set that is free, else into one that is
no longer pinned, whose group is discarded and counted (notes/assumptions/10.md). -/
def State.migrate (s : State) : State :=
  match s.ks.slot with
  | none => s
  | some e =>
    let st := s.ks.sets[setOf e.group]
    let moved (w : Way) : KeyStore := { s.ks.placeInWay e w with slot := none }
    match st.freeWay, s.victim st with
    | some w, _ => { s with ks := moved w }
    | none, some w => { s with ks := (moved w).countReplaced }
    | none, none => s

/-! ## Loads, expiry and purges -/

/-- R59 to R62: a load whose expiry is 0 or above the clock is placed. -/
def State.placeKey (s : State) (group : Nat) (phase : KeyPhase) (k : PhaseKey) : KeyStore :=
  let ks := s.ks
  let st := ks.sets[setOf group]
  let fresh := KeyEntry.fresh group phase k
  match ks.locate group with
  | some place => ks.put group ((ks.at group place).map (·.setPhase (some k) phase)) place
  | none =>
    match st.freeWay, s.victim st with
    | some w, _ => ks.placeInWay fresh w
    | none, some w => (ks.placeInWay fresh w).countReplaced
    | none, none =>
      let ks := if ks.slot.isSome then ks.countDisplaced else ks
      { ks with slot := some fresh }

/-- R57: one phase of a held group becomes invalid, and the entry is freed when neither phase is valid. -/
def KeyStore.dropPhase (ks : KeyStore) (group : Nat) (phase : KeyPhase) : KeyStore :=
  match ks.locate group with
  | none => ks
  | some place => ks.put group ((ks.at group place).bind fun e => (e.setPhase none phase).orFree) place

/-- R67: a group is removed from the place that holds it. -/
def KeyStore.purge (ks : KeyStore) (group : Nat) : KeyStore :=
  match ks.locate group with
  | none => ks
  | some place => ks.put group none place

/-- R68, R70: every way and the slot freed and every recency mark at way 0; the counters are kept. -/
def KeyStore.clear (ks : KeyStore) : KeyStore :=
  { ks with sets := Vector.replicate 32 KeySet.empty, slot := none }

/-- R57: the expiry registered for a phase of a held group. -/
def KeyStore.expiryOf (ks : KeyStore) (group : Nat) (phase : KeyPhase) : Option Nat :=
  ((ks.locate group).bind (ks.at group)).bind fun e =>
    (e.phase phase).bind fun k => if k.expiry = 0 then none else some k.expiry

/-- R57: a key phase's expiry happens, and migration follows (R63). -/
def State.expireKey (s : State) (group : Nat) (phase : KeyPhase) : State :=
  ({ s with ks := s.ks.dropPhase group phase }).migrate

/-- R51: every entry held, for the list of registered expiries. -/
def KeyStore.entries (ks : KeyStore) : List KeyEntry :=
  (ks.sets.toList.flatMap fun st => st.way0.toList ++ st.way1.toList) ++ ks.slot.toList

end Sys2Proof.Machine
end

