-- ==== Sys2Proof/Machine/Ports.lean ====
section
/-! DEFINITION. The Port Controller: the resolved stream (R23), the tune decision (R83, R84), what it does to a port
record (R85), re-evaluation (R88, R89), the Preview List (R96 to R98), OFF (R87), the signal timer (R91), the blank
cadence (R93) and the alert's hold on the ports (R100). -/

namespace Sys2Proof.Machine

/-! ## The resolved stream (R23) -/

/-- R22: a present entry's source range contains the stream. -/
def RemapEntry.covers (e : RemapEntry) (stream : Nat) : Bool := e.first ≤ stream && stream ≤ e.first + e.count - 1

/-- R23: the first present entry that contains the stream maps it once; else the stream stands. -/
def resolveIn (table : List (Option RemapEntry)) (stream : Nat) : Nat :=
  match table with
  | [] => stream
  | some e :: rest => if e.covers stream then e.target + (stream - e.first) else resolveIn rest stream
  | none :: rest => resolveIn rest stream

/-- R23: the resolved stream of a view of a home channel; none where its entry is ABSENT. -/
def State.resolve (s : State) (v : View) (home : Channel) : Option Nat :=
  (s.serviceOf v home).map fun e => resolveIn s.sf.remap.toList e.stream

/-! ## The tune decision (R83, R84) -/

/-- R83: the outcome of the tune decision. -/
inductive Decision where
  | alert
  | absent
  | blank (reason : BlankReason)
  | playing
  | preview
  deriving DecidableEq, Repr

/-- R84: the preview seconds left of a title under a price entry. -/
def previewLeft (entry : Option PriceEntry) (used : Option Preview) : Nat :=
  match entry with
  | none => 0
  | some e => e.preview - (used.map (·.seconds)).getD 0

/-- R84: the outcome for a FILM channel that reaches check 5. -/
def State.filmDecision (s : State) (title : Nat) (price : PriceCode) : Decision :=
  let entry := s.price price
  let used := s.previewRecord title
  if (s.purchase title).isSome then .playing
  else if 0 < previewLeft entry used then .preview
  else if entry.any (0 < ·.preview) && used.any (!·.bought) then .blank .previewOver
  else .blank .notPurchased

/-- R83, check 5. -/
def State.tierDecision (s : State) : Tier → Decision
  | .house => .playing
  | .free => .playing
  | .package n => if s.su.packages.getLsbD n.val then .playing else .blank .notEntitled
  | .film title price => s.filmDecision title price

/-- R83, check 3: a channel that may not play while the room is not OCCUPIED. -/
def State.vacancyBlocks (s : State) (c : Channel) : Tier → Bool
  | .house => false
  | .free => !inWindow s.su.vacantFirst s.su.vacantLast c
  | _ => true

/-- R83: the checks in their order for port p and channel c. -/
def State.tuneDecision (s : State) (p : Port) (c : Channel) : Decision :=
  if s.su.alert.isSome then .alert
  else match s.entry c with
    | none => .absent
    | some e =>
      if !s.isOccupied && s.vacancyBlocks c e.tier then .blank .vacant
      else if s.effectiveCeiling p < e.rating then .blank .locked
      else s.tierDecision e.tier

/-! ## The Preview List (R96 to R98) -/

/-- R96: a record joins at the tail; a full list first loses its oldest record whose title no port is previewing. -/
def State.joinPreview (s : State) (r : Preview) : State :=
  let old := s.pc.previews
  let kept := if previewMax ≤ old.length then old.eraseP (fun x => !s.isPreviewed x.title) else old
  { s with pc := { s.pc with previews := kept ++ [r] } }

/-- R85: into PREVIEW for a title that has no record, a record joins with 0 seconds. -/
def State.startPreview (s : State) (home : Channel) : State :=
  match s.titleOn home with
  | none => s
  | some t => if (s.previewRecord t).isSome then s else s.joinPreview { title := t, seconds := 0, bought := false }

/-- R98: an accepted BUY takes up the title's preview against the preview length of the channel bought on. -/
def State.takeUpPreview (s : State) (title length : Nat) : State :=
  if (s.previewRecord title).isSome then
    { s with pc := { s.pc with previews := s.pc.previews.map fun r =>
        if r.title = title then { r with seconds := max r.seconds length, bought := true } else r } }
  else s.joinPreview { title := title, seconds := length, bought := true }

/-! ## Placing a port (R85) -/

/-- R85: the record of a port placed in an active state on home channel c. -/
def State.activeRecord (s : State) (p : Port) (v : View) (c : Channel) : PortRecord :=
  match v, s.port p with
  | .alert, .active .alert _ stream delivery timer => .active .alert c stream delivery timer
  | _, .active _ _ _ delivery _ => .active v c (s.resolve v c) delivery signalMs
  | _, _ => .active v c (s.resolve v c) .noSignal signalMs

/-- R85: a port placed in PLAYING, PREVIEW or ALERT. -/
def State.placeActive (s : State) (p : Port) (v : View) (c : Channel) : State :=
  let s := s.setPort p (s.activeRecord p v c)
  if v = .preview then s.startPreview c else s

/-- R85, R93: the record of a port placed in BLANKED: the cadence runs from 500 ms, unless the port was BLANKED already
with the same reason and home channel. -/
def PortRecord.blankedFor (old : PortRecord) (r : BlankReason) (c : Channel) : PortRecord :=
  if old.reason = some r ∧ old.home = some c then old else .blanked r c blankMs

/-- R85: the outcome of a tune decision applied; an ABSENT channel leaves the port to its caller. The units it makes join at
the end of the event (`State.announce`). -/
def State.applyDecision (s : State) (p : Port) (c : Channel) : Decision → State
  | .alert => s.placeActive p .alert c
  | .absent => s
  | .blank r => s.setPort p ((s.port p).blankedFor r c)
  | .playing => s.placeActive p .playing c
  | .preview => s.placeActive p .preview c

/-- R86: the tune decision run for a TUNE, with an ABSENT channel leaving the port unchanged. -/
def State.tunePort (s : State) (p : Port) (c : Channel) : State := s.applyDecision p c (s.tuneDecision p c)

/-- R86: the reply to a TUNE by the check that applied. -/
def State.tuneReply (s : State) (p : Port) (c : Channel) : ReplyCode :=
  match s.tuneDecision p c with
  | .alert => .alertActive
  | .absent => .noChannel
  | _ => .ok

/-- R88: a port's decision run again for its home channel; an ABSENT one gives BLANKED NOT_ENTITLED, and a port in OFF is
passed by. -/
def State.reevaluatePort (s : State) (p : Port) : State :=
  match (s.port p).home with
  | none => s
  | some c =>
    match s.tuneDecision p c with
    | .absent => s.applyDecision p c (.blank .notEntitled)
    | d => s.applyDecision p c d

/-- R89: the ports that pass a test are re-evaluated once each, in a free order, against the state the event leaves. -/
def State.reevaluateEach (s : State) (test : Port → Bool) : State :=
  (s.arranged test).foldl State.reevaluatePort (s.afterArranging test)

/-- R88: one port is re-evaluated and its units join. `before` is the state before the event. -/
def State.reevaluate (s before : State) (p : Port) : State := (s.reevaluatePort p).announce before

/-- R88, R89: the ports that pass a test are re-evaluated and their units join. -/
def State.reevaluateWhere (s before : State) (test : Port → Bool) : State := (s.reevaluateEach test).announce before

/-- R3, R4, R7: every port that is not OFF is re-evaluated. -/
def State.reevaluateAll (s before : State) : State := s.reevaluateWhere before fun p => !(s.port p).isOff

/-- R40, R88: the ports whose home channel carries the title are re-evaluated. -/
def State.reevaluateTitle (s before : State) (title : Nat) : State := s.reevaluateWhere before fun p => s.carries p title

/-! ## OFF (R87) -/

/-- R87: a port goes to OFF, with a notice when it was not OFF. -/
def State.turnOff (s before : State) (p : Port) : State := (s.setPort p .off).announce before

/-- R103, R104: every port is turned OFF, with a notice for each that was not. -/
def State.turnAllOff (s before : State) : State :=
  ({ s with pc := { s.pc with ports := Vector.replicate 4 .off } }).announce before

/-! ## Streams and timers -/

/-- R24, R39, R100: an active port's resolved stream is found anew and its timer restarts; state, home channel and
delivery are kept. -/
def State.restream (s : State) (p : Port) : State :=
  match s.port p with
  | .active v home _ delivery _ => s.setPort p (.active v home (s.resolve v home) delivery signalMs)
  | _ => s

/-- R24: every active port re-resolves its stream. -/
def State.restreamAll (s : State) : State := allPorts.foldl (fun s p => s.restream p) s

/-- R39: the ports in ALERT take their service from the alert channel's new entry. -/
def State.restreamAlerts (s : State) : State :=
  allPorts.foldl (fun s p => if (s.port p).isAlert then s.restream p else s) s

/-- R91: a running signal timer runs out: the delivery becomes NO_SIGNAL, with a notice when that is a change. -/
def State.expireSignal (s : State) (p : Port) : State :=
  match s.port p with
  | .active v home stream _ (_ + 1) => (s.setPort p (.active v home stream .noSignal 0)).notifyChange s p
  | _ => s

/-- R93: a BLANKED port's cadence runs out: a blank unit is made and the cadence restarts. -/
def State.expireCadence (s : State) (p : Port) : State :=
  match s.port p with
  | .blanked r home _ => (s.setPort p (.blanked r home blankMs)).sendData (.blank p r home)
  | _ => s

/-- R90, R93: one local millisecond at one port: its timer or its cadence counts down and, at its end, runs out. -/
def State.portMillisecond (s : State) (p : Port) : State :=
  match s.port p with
  | .active v home stream delivery (t + 2) => s.setPort p (.active v home stream delivery (t + 1))
  | .active _ _ _ _ 1 => s.expireSignal p
  | .blanked r home (n + 2) => s.setPort p (.blanked r home (n + 1))
  | .blanked _ _ _ => s.expireCadence p
  | _ => s

/-! ## The house alert's hold on the ports (R12 to R14, R100, R101) -/

/-- R12, R100: an alert starts: a port not OFF goes to ALERT, keeping its home channel. -/
def State.enterAlert (s : State) (p : Port) : State :=
  match (s.port p).home with
  | none => s
  | some home => s.placeActive p .alert home

/-- R12: the alert is active on a channel until an end time. -/
def State.setAlert (s : State) (a : Option Alert) : State := { s with su := { s.su with alert := a } }

/-- R12, R100: the start of an alert at the ports. -/
def State.startAlert (s : State) (a : Alert) : State :=
  (allPorts.foldl State.enterAlert (s.setAlert (some a))).announce s

/-- R13, R100: a replacement on another channel: every port in ALERT takes the new channel. -/
def State.moveAlert (s : State) (a : Alert) : State := (s.setAlert (some a)).restreamAlerts.announce s

/-- R12, R13: a HOUSE_ALERT with a duration above 0 starts the alert or replaces it. -/
def State.orderAlert (s : State) (a : Alert) : State :=
  match s.su.alert with
  | none => (s.startAlert a).migrate
  | some old => if old.channel = a.channel then s.setAlert (some a) else (s.moveAlert a).migrate

/-- R14, R101: the alert is cleared and every port in ALERT is re-evaluated on its home channel. -/
def State.endAlert (s : State) : State :=
  ((s.setAlert none).reevaluateWhere s fun p => (s.port p).isAlert).migrate

end Sys2Proof.Machine
end

