-- ==== Sys2Proof/Machine/Lanes.lean ====
section
/-! DEFINITION. The Descrambler's lanes: the keystream (R73 to R76), the treatment of a copy (R72) and its outcomes at the
port (R77, R78), and the delivery of a MEDIA unit to the active ports (R21). -/

namespace Sys2Proof.Machine

/-- R73: K_seed, the more significant half of a control word. -/
def seedOf (word : BitVec 64) : BitVec 32 := word.extractLsb' 32 32

/-- R73: K_mask, the less significant half. -/
def maskOf (word : BitVec 64) : BitVec 32 := word.extractLsb' 0 32

/-- R74: the start value x0. -/
def keyStart (seed : BitVec 32) (count stream : Nat) : BitVec 32 := seed + BitVec.ofNat 32 (4096 * count + stream)

/-- R75: one step of the recurrence. -/
def keyStep (x : BitVec 32) : BitVec 32 := x * 3182915629#32 + 40503#32

/-- R75: x(i), from x0. -/
def keyValue (x0 : BitVec 32) : Nat → BitVec 32
  | 0 => x0
  | i + 1 => keyStep (keyValue x0 i)

/-- R76: the keystream byte k(i) from x(i + 1) and byte (i mod 4) of K_mask. -/
def keyByte (mask x : BitVec 32) (i : Nat) : Byte :=
  x.extractLsb' 24 8 ^^^ mask.extractLsb' (8 * (i % 4)) 8

/-- R76: the bytes from body byte i on, x being x(i). -/
def clearFrom (mask x : BitVec 32) (i : Nat) : List Byte → List Byte
  | [] => []
  | b :: bs => (b ^^^ keyByte mask (keyStep x) i) :: clearFrom mask (keyStep x) (i + 1) bs

/-- R73 to R76: the clear body of a unit under a control word. -/
def clearBody (word : BitVec 64) (u : Unit96) : Vector Byte 88 :=
  let clear := clearFrom (maskOf word) (keyStart (seedOf word) u.count u.stream) 0 u.body.toList
  Vector.ofFn fun i => clear.getD i 0

/-- R72: the outcome of a copy at its lane: the cleared body, or none for KEY_MISS. -/
def State.laneOutcome (s : State) (p : Port) (u : Unit96) : Option (Vector Byte 88) :=
  match u.phase, s.serviceGroup p with
  | .scrambled ph, some g => (s.ks.lookupWord g ph).map fun w => clearBody w u
  | .scrambled _, none => none
  | _, _ => some u.body

/-- R65, R72: the recency mark a copy's lookup leaves; no lookup is made in phase CLEAR or for NONE. -/
def State.laneMark (s : State) (p : Port) (u : Unit96) : State :=
  match u.phase, s.serviceGroup p with
  | .scrambled _, some g => { s with ks := s.ks.lookupMark g }
  | _, _ => s

/-- R77: a cleared copy: the delivery becomes FLOWING and the timer restarts, the notice leaves, then the unit. -/
def State.copyCleared (s : State) (p : Port) (u : Unit96) (body : Vector Byte 88) : State :=
  match s.port p with
  | .active v home stream _ _ =>
    ((s.setPort p (.active v home stream .flowing signalMs)).notifyChange s p).sendData
      (.programme p u.stream u.count body)
  | _ => s

/-- R78: a missed copy: the delivery becomes NO_KEY, with a notice when that is a change; the timer goes on. -/
def State.copyMissed (s : State) (p : Port) : State :=
  match s.port p with
  | .active v home stream _ timer => (s.setPort p (.active v home stream .noKey timer)).notifyChange s p
  | _ => s

/-- R71, R72: one copy treated whole at its lane. -/
def State.treatCopy (s : State) (p : Port) (u : Unit96) : State :=
  let t := s.laneMark p u
  match s.laneOutcome p u with
  | some body => t.copyCleared p u body
  | none => t.copyMissed p

/-- R21: the unit matches an active port whose resolved stream is its stream. -/
def State.matches (s : State) (p : Port) (u : Unit96) : Bool :=
  match s.port p with
  | .active _ _ (some stream) _ _ => stream == u.stream
  | _ => false

/-- R20, R21: a MEDIA unit goes to every port it matches, the copies treated in a free order; one on the null stream
goes to none. That no other event falls between two copies is the model's reading (DEDUCED, notes/assumptions/30.md). -/
def State.deliver (s : State) (u : Unit96) : State :=
  if u.stream = 4095 then s
  else (s.arranged fun p => s.matches p u).foldl (fun t p => t.treatCopy p u) (s.afterArranging fun p => s.matches p u)

end Sys2Proof.Machine
end

