-- ==== Sys2Proof/Machine/Returns.lean ====
section
/-! DEFINITION. Return units: the status summary (R157), what a poll composes (R156, R158), and FI's transmit state (R19,
R159). -/

namespace Sys2Proof.Machine

/-- R157, "Ports". -/
def PortRecord.status (r : PortRecord) : PortStatus := { state := r.state, reason := r.reason, delivery := r.delivery }

/-- R157: the status summary, each field read from its owner as the part stands. -/
def State.summary (s : State) : Summary where
  room          := s.room
  group         := s.su.group
  occupancy     := s.su.occupancy
  stayNumber    := s.su.stayNumber
  clock         := s.su.clock
  silent        := s.su.silent
  restarted     := s.su.restarted
  hold          := s.bq.hold
  captureHeld   := s.md.capture.isSome
  depth         := s.bq.queue.length
  nextSeq       := s.bq.nextSeq
  spend         := s.su.spend
  cap           := s.su.cap
  ceiling       := s.lu.ceiling
  pinSet        := s.lu.pin.isSome
  lockedOut     := s.lu.lockout.isSome
  strict        := s.lu.strict.isSome
  frozen        := s.lu.frozen
  ports         := s.pc.ports.map PortRecord.status
  formatFaults  := s.sf.formatFaults
  checkFailures := s.md.checkFailures
  refusals      := s.md.refusals
  overruns      := s.md.overruns
  dropped       := s.fi.dropped
  marksIgnored  := s.su.marksIgnored
  keysReplaced  := s.ks.replaced
  keysDisplaced := s.ks.displaced
  lastRefusal   := s.md.lastRefusal
  lastClosed    := s.su.lastClosed

/-- R156: a BILLING return unit: the summary and up to four records from the head. -/
def State.billingUnit (s : State) : ReturnUnit where
  summary := s.summary
  content := .billing (s.bq.queue.take 4)

/-- R158: a CAPTURE return unit: the summary and the fault capture record. -/
def State.captureUnit (s : State) : ReturnUnit where
  summary := s.summary
  content := .capture s.md.capture

/-- R159: the sequence numbers of the records a return unit carries. -/
def ReturnUnit.carried (r : ReturnUnit) : List Nat :=
  match r.content with
  | .billing records => records.map (·.seq)
  | .capture _ => []

/-- R159: the records that a unit carries are marked sent; one removed in between is passed over. -/
def BillingQueue.markSent (bq : BillingQueue) (seqs : List Nat) : BillingQueue :=
  { bq with queue := bq.queue.map fun r => if seqs.contains r.seq then { r with sent := true } else r }

/-- R19, R159: the transmission of a return unit begins: FI stamps the continuity count, and its records are marked. -/
def State.beginReturn (s : State) (r : ReturnUnit) : State :=
  { s with
    fi := { s.fi with sending := some { count := s.fi.nextCount, unit := r }, nextCount := (s.fi.nextCount + 1) % 16 }
    bq := s.bq.markSent r.carried }

/-- R19: FI sends a composed unit at once, or places it among the waiting units, dropping the oldest of four. -/
def State.handReturn (s : State) (r : ReturnUnit) : State :=
  if s.fi.sending.isNone then s.beginReturn r
  else if s.fi.waiting.length < waitingMax then { s with fi := { s.fi with waiting := s.fi.waiting ++ [r] } }
  else { s with fi := { s.fi with waiting := s.fi.waiting.tail ++ [r], dropped := raiseCounter s.fi.dropped } }

/-- R19: the transmission of a unit ends, and the oldest waiting unit begins. -/
def State.endReturn (s : State) : State :=
  match s.fi.waiting with
  | [] => { s with fi := { s.fi with sending := none } }
  | r :: rest => ({ s with fi := { s.fi with waiting := rest } }).beginReturn r

end Sys2Proof.Machine
end

