-- ==== Sys2Proof/Machine/Charge.lean ====
section
/-! DEFINITION. The charge calculator (R143 to R148): base price, tax, cap and credit, in exact whole numbers. -/

namespace Sys2Proof.Machine

/-- 00_scope, R144: the day minute of a stay-clock value. -/
def dayMinute (clock : Nat) : Nat := clock % 86400 / 60

/-- R144: the off-peak band, from S up to but not including E, wrapping when S is above E, empty when they are equal. -/
def inBand (bandStart bandEnd m : Nat) : Bool :=
  if bandStart < bandEnd then bandStart ≤ m && m < bandEnd
  else if bandEnd < bandStart then bandStart ≤ m || m < bandEnd
  else false

/-- R144, stage 1: whether the off-peak price is taken. -/
def PriceEntry.isOffPeak (e : PriceEntry) (clock : Nat) : Bool := inBand e.bandStart e.bandEnd (dayMinute clock)

/-- R144, stage 1: the base price B. -/
def PriceEntry.base (e : PriceEntry) (clock : Nat) : Nat := if e.isOffPeak clock then e.offPeak else e.standard

/-- R145, stage 2: the tax on a base price, rounded half up. -/
def taxOn (base rate : Nat) : Nat := (base * rate + 500) / 1000

/-- R145, stage 2: the charge. -/
def PriceEntry.charge (e : PriceEntry) (clock : Nat) : Nat := e.base clock + taxOn (e.base clock) e.tax

/-- R146, stage 3: spend plus the charge is within the cap. -/
def withinCap (spend charge cap : Nat) : Bool := spend + charge ≤ cap

/-- R147, stage 4: the credit of a closing purchase. -/
def creditOf (charge outage window : Nat) : Nat :=
  if outage < outageMin then 0 else if window ≤ 2 * outage then charge else charge * outage / window

end Sys2Proof.Machine
end

