-- ==== Sys2Proof/Machine/Billing.lean ====
section
/-! DEFINITION. The Billing Queue and the closing of purchases: appends (R150 to R152, R155), release (R160), closure
with credit (R135, R140, R147), and outage accrual (R137). -/

namespace Sys2Proof.Machine

/-- R150, R151: the record BQ makes of what PU hands over. -/
def State.makeRecord (s : State) (e : Purchase) (kind : RecordKind) (amount time : Nat) : BillingRecord :=
  let adult := 6 ≤ e.rating
  let discreet := adult && s.su.discretion
  { seq := s.bq.nextSeq
    stay := s.su.stayNumber
    kind := kind
    category := if adult then .adult else .film
    title := if discreet then 0 else e.title
    price := e.price
    time := time
    amount := amount
    offPeak := e.offPeak
    silent := e.silent
    discreet := discreet
    sent := false }

/-- R152, R155: a record joins the tail with the next sequence number, and the hold flag is worked out anew. -/
def BillingQueue.append (bq : BillingQueue) (r : BillingRecord) : BillingQueue :=
  { bq with
    queue := bq.queue ++ [r]
    nextSeq := (bq.nextSeq + 1) % 65536
    hold := holdTest bq.high bq.low (bq.queue.length + 1) bq.hold }

/-- R131, R152: PU hands BQ a record of a purchase. -/
def State.bill (s : State) (e : Purchase) (kind : RecordKind) (amount time : Nat) : State :=
  { s with bq := s.bq.append (s.makeRecord e kind amount time) }

/-- R6: spend raised. -/
def State.raiseSpend (s : State) (n : Nat) : State := { s with su := { s.su with spend := s.su.spend + n } }

/-- R6: spend lowered; it is never negative. -/
def State.lowerSpend (s : State) (n : Nat) : State := { s with su := { s.su with spend := s.su.spend - n } }

/-- R125: the entry of a title is removed from the Purchase Table. -/
def State.removePurchase (s : State) (title : Nat) : State :=
  { s with pu := { s.pu with purchases := s.pu.purchases.filter (·.title != title) } }

/-- R135, R140: a purchase is closed at a time: its credit, when above 0, is billed and lowers spend, and the entry is
removed. -/
def State.closePurchase (s : State) (e : Purchase) (time : Nat) : State :=
  let credit := creditOf e.charge e.outage e.window
  let s := if 0 < credit then (s.bill e .credit credit time).lowerSpend credit else s
  s.removePurchase e.title

/-- R4: the order of closure at STAY_CLOSE: by start time, then by title code. -/
def Purchase.before (a b : Purchase) : Bool := a.start < b.start || (a.start == b.start && a.title ≤ b.title)

/-- A purchase put in its place in the order of closure. -/
def insertPurchase (e : Purchase) : List Purchase → List Purchase
  | [] => [e]
  | x :: xs => if e.before x then e :: x :: xs else x :: insertPurchase e xs

/-- R4: the entries in the order of closure. -/
def closureOrder : List Purchase → List Purchase
  | [] => []
  | e :: es => insertPurchase e (closureOrder es)

/-- R140: every entry is closed, in the order R4 gives. -/
def State.closeAll (s : State) : State :=
  (closureOrder s.pu.purchases).foldl (fun t e => t.closePurchase e s.su.clock) s

/-- R135: a purchase's window end happens at its due time, and the ports on the title are re-evaluated. -/
def State.endWindow (s : State) (e : Purchase) (due : Nat) : State :=
  ((s.closePurchase e due).reevaluateTitle s e.title).migrate

/-! ## Release (R160) -/

/-- R160: the tests that the head record must pass. -/
def BillingRecord.releasable (r : BillingRecord) (s : Nat) : Bool :=
  r.sent && (s + 65536 - r.seq) % 65536 < releaseRun

/-- R155, R160: records leave the head one at a time while the head passes, each removal working out the hold flag. -/
def releaseFrom (high low s : Nat) : List BillingRecord → Bool → List BillingRecord × Bool
  | [], hold => ([], hold)
  | r :: rs, hold =>
    if r.releasable s then releaseFrom high low s rs (holdTest high low rs.length hold) else (r :: rs, hold)

/-- R160: the queue after a RELEASE of s. -/
def BillingQueue.release (bq : BillingQueue) (s : Nat) : BillingQueue :=
  let (queue, hold) := releaseFrom bq.high bq.low s bq.queue bq.hold
  { bq with queue := queue, hold := hold }

/-- R5, R160: a RELEASE; the removal that empties the queue ends SETTLING. -/
def State.releaseTo (s : State) (n : Nat) : State :=
  let t := { s with bq := s.bq.release n }
  if !s.bq.queue.isEmpty && t.bq.queue.isEmpty && s.su.occupancy == .settling then
    { t with su := { t.su with occupancy := .vacant } }
  else t

/-! ## Outage seconds (R137) -/

/-- R137: a port on the title that causes an outage second. -/
def PortRecord.starved : PortRecord → Bool
  | .active .alert _ _ _ _ => true
  | .active .playing _ _ .noSignal _ => true
  | .active .playing _ _ .noKey _ => true
  | _ => false

/-- R137: a port on the title that prevents an outage second. -/
def PortRecord.flows : PortRecord → Bool
  | .active .playing _ _ .flowing _ => true
  | _ => false

/-- R137: whether a local second is an outage second of a title. -/
def State.isOutage (s : State) (title : Nat) : Bool :=
  allPorts.any (fun p => s.carries p title && (s.port p).starved) &&
    !allPorts.any (fun p => s.carries p title && (s.port p).flows)

/-- R137: each open entry judged for one local second; its outage seconds stop at W. -/
def State.accrueOutage (s : State) : State :=
  { s with pu := { s.pu with purchases := s.pu.purchases.map fun e =>
      if (s.isOutage e.title) then { e with outage := min (e.outage + 1) e.window } else e } }

/-! ## Preview seconds (R97) -/

/-- R97, step 1: every title being previewed has its record's seconds raised by one and its bought flag cleared. -/
def State.countPreview (s : State) : State :=
  { s with pc := { s.pc with previews := s.pc.previews.map fun r =>
      if (s.isPreviewed r.title) then { r with seconds := r.seconds + 1, bought := false } else r } }

/-- R97, step 2: the seconds used have reached the preview length of the port's own home channel. -/
def State.previewSpent (s : State) (p : Port) : Bool :=
  match s.port p with
  | .active .preview home _ _ _ =>
    match s.entry home with
    | some { tier := .film t k, .. } => previewLeft (s.price k) (s.previewRecord t) == 0
    | _ => false
  | _ => false

/-- R97, step 2: such a port goes to BLANKED PREVIEW_OVER. -/
def State.overPreview (s : State) (p : Port) : State :=
  match (s.port p).home with
  | none => s
  | some home => s.applyDecision p home (.blank .previewOver)

/-- R97: the preview accrual of one local second. -/
def State.accruePreview (s : State) : State :=
  let t := s.countPreview
  (((allPorts.filter t.previewSpent).foldl State.overPreview t).announce s).migrate

end Sys2Proof.Machine
end

