-- ==== Sys2Proof/Machine/Lock.lean ====
section
/-! DEFINITION. The Lock Unit: failures and lockouts (R113), lockout end and strict quiet end (R114, R115), unlocks
(R108, R117), desk orders (R119 to R121) and the lock at stay events (R124). -/

namespace Sys2Proof.Machine

/-- R117: the ports that have an unlock in force. -/
def State.hasUnlock (s : State) (p : Port) : Bool := s.lu.unlocks[p].isSome

/-- R117: every unlock ended, with no re-evaluation. -/
def LockUnit.endUnlocks (lu : LockUnit) : LockUnit := { lu with unlocks := Vector.replicate 4 none }

/-- R113, R119: every unlock in force ends, and each such port is re-evaluated. -/
def State.endUnlocks (s : State) : State :=
  (({ s with lu := s.lu.endUnlocks }).reevaluateWhere s s.hasUnlock).migrate

/-- R117: one port's unlock ends, and the port is re-evaluated; a port with none is left alone. -/
def State.endUnlock (s : State) (p : Port) : State :=
  if s.hasUnlock p then ((s.setUnlock p none).reevaluate s p).migrate else s

/-- R108: a right PIN's unlock: the end time replaces any earlier one, and the port is re-evaluated. -/
def State.unlockPort (s : State) (p : Port) (seconds : Nat) : State :=
  let t := { s with lu := { s.lu with failures := 0 } }
  ((t.setUnlock p (some (holdDue (s.su.clock + seconds)))).reevaluate s p).migrate

/-- R113, steps 1 and 2: failures are raised, and the quiet end moves when strict mode is on. -/
def LockUnit.countFailure (lu : LockUnit) (clock : Nat) : LockUnit :=
  { lu with
    failures := lu.failures + 1
    strict := lu.strict.map fun _ => holdDue (clock + strictSeconds) }

/-- R113, step 3: a lockout starts. -/
def LockUnit.startLockout (lu : LockUnit) (clock : Nat) : LockUnit :=
  { lu with failures := 0, lockout := some (holdDue (clock + lockoutSeconds)) }

/-- R112, R113: a wrong PIN: the state it leaves, the reply code and the lock detail, 600 for a lockout
that starts (DEDUCED, notes/assumptions/20.md). -/
def State.wrongPin (s : State) : State × ReplyCode × Nat :=
  let lu := s.lu.countFailure s.su.clock
  if lu.failures = lu.budget then
    let locked := lu.startLockout s.su.clock
    (({ s with lu := locked.endUnlocks }).reevaluateWhere s s.hasUnlock |>.migrate, .lockoutStarted, lockoutSeconds)
  else ({ s with lu := lu }, .wrongPin, lu.budget - lu.failures)

/-- R107: the offered PIN is right when it is the stored PIN, digit for digit. -/
def LockUnit.pinRight (lu : LockUnit) (offered : List Nat) : Bool := lu.pin == some offered

/-- R110, R119: the ceiling set, and every port not OFF re-evaluated when it changes. -/
def State.setCeiling (s : State) (value : Nat) : State :=
  let t := { s with lu := { s.lu with ceiling := value } }
  if value = s.lu.ceiling then t else (t.reevaluateAll s).migrate

/-- R114: the lockout ends and strict mode turns on, with its quiet end counted from the due time. -/
def State.endLockout (s : State) (due : Nat) : State :=
  { s with lu := { s.lu with lockout := none, strict := some (holdDue (due + strictSeconds)) } }

/-- R115: strict mode turns off; failures keep their value. -/
def State.endStrict (s : State) : State := { s with lu := { s.lu with strict := none } }

/-- R120, CLEAR_PIN: PIN, failures, lockout and strict mode; the ceiling, the unlocks and the frozen flag are kept. -/
def LockUnit.clearPin (lu : LockUnit) : LockUnit :=
  { lu with pin := none, failures := 0, lockout := none, strict := none }

/-- R3, R124: the lock for a new guest. -/
def LockUnit.forGuest (lu : LockUnit) (ceiling : Nat) (freeze : Bool) : LockUnit :=
  { lu.clearPin.endUnlocks with ceiling := ceiling, frozen := freeze }

/-- R4, R124: the lock at STAY_CLOSE; the ceiling is kept. -/
def LockUnit.afterStay (lu : LockUnit) : LockUnit := { lu.clearPin.endUnlocks with frozen := false }

end Sys2Proof.Machine
end

