-- ==== Sys2Proof/Machine/Time.lean ====
section
/-! DEFINITION. Time: the registered stay-level events and the order in which they happen (R10), the local second (R8),
the silence monitor (R11), clock marks (R9) and the local millisecond (R90, R93). -/

namespace Sys2Proof.Machine

/-- R10, "Stay-level events". -/
inductive DueEvent where
  | keyPhase (group : Nat) (phase : KeyPhase)
  | unlock (port : Port)
  | lockout
  | strict
  | window (title : Nat)
  | alert
  deriving DecidableEq, Repr

/-- An event with its due time, where one is registered. -/
def registered (e : DueEvent) (t : Option Nat) : List (Nat × DueEvent) :=
  match t with
  | none => []
  | some t => [(t, e)]

/-- R57: the expiries an entry has registered: a valid phase with an expiry above 0. -/
def KeyEntry.dueEvents (e : KeyEntry) : List (Nat × DueEvent) :=
  [KeyPhase.a, KeyPhase.b].flatMap fun ph =>
    registered (.keyPhase e.group ph) ((e.phase ph).bind fun k => if k.expiry = 0 then none else some k.expiry)

/-- R10: every registered event with its due time. A due time is registered exactly while its owner holds it
(DEDUCED, notes/assumptions/23.md). -/
def State.dueEvents (s : State) : List (Nat × DueEvent) :=
  s.ks.entries.flatMap KeyEntry.dueEvents ++
  (allPorts.flatMap fun p => registered (.unlock p) s.lu.unlocks[p]) ++
  registered .lockout s.lu.lockout ++
  registered .strict s.lu.strict ++
  (s.pu.purchases.map fun e => (e.windowEnd, DueEvent.window e.title)) ++
  registered .alert (s.su.alert.map (·.endTime))

/-- R10: a registered event happens, taken as at its due time. -/
def State.takeDue (s : State) (due : Nat) : DueEvent → State
  | .keyPhase g ph => s.expireKey g ph
  | .unlock p => s.endUnlock p
  | .lockout => s.endLockout due
  | .strict => s.endStrict
  | .window title =>
    match s.purchase title with
    | some e => s.endWindow e due
    | none => s
  | .alert => s.endAlert

/-- R10: the registered events due at or before the clock. -/
def State.dueNow (s : State) : List (Nat × DueEvent) := s.dueEvents.filter fun d => d.1 ≤ s.su.clock

/-- R10: of some events, those with the earliest due time. -/
def earliest (ds : List (Nat × DueEvent)) : List (Nat × DueEvent) :=
  ds.filter fun d => ds.all fun d' => d.1 ≤ d'.1

/-- R10: the earliest event that is due is taken; of several at one second, a free one. -/
def State.takeNext (s : State) : State :=
  match earliest s.dueNow with
  | [] => s
  | [d] => s.takeDue d.1 d.2
  | d :: ds =>
    let (k, rest) := drawFrom (ds.length + 1) s.choices
    let e := (d :: ds).getD k d
    ({ s with choices := rest }).takeDue e.1 e.2

/-- R10: up to n due events are taken, in due order. -/
def State.takeDueUpTo : Nat → State → State
  | 0, s => s
  | n + 1, s => takeDueUpTo n s.takeNext

/-- R10: every event due at or before the clock happens, those that a taken event registers among them. Only a lockout's
end registers another (R114), so one more than the number registered is enough (DEDUCED, notes/assumptions/3.md). -/
def State.settleDue (s : State) : State := s.takeDueUpTo (s.dueEvents.length + 1)

/-- R10: a due time registered outside a jump at or before the clock falls due when its event is complete. A new due
time lies above the clock unless it is held, so this is the case of a clock at its last value (DEDUCED,
notes/assumptions/27.md). -/
def State.settleHeld (s : State) : State := if clockMax ≤ s.su.clock then s.settleDue else s

/-- R11: one local second at the silence monitor. -/
def StayUnit.countSilence (su : StayUnit) : StayUnit :=
  if su.silenceCount < silenceLimit then
    { su with
      silenceCount := su.silenceCount + 1
      silent := su.silent || su.silenceCount + 1 == silenceLimit }
  else su

/-- R8: the clock advances by one and stays at its last value. -/
def StayUnit.tickClock (su : StayUnit) : StayUnit := { su with clock := min (su.clock + 1) clockMax }

/-- R97, R137: the accruals of one local second, judged on the port records as they stand. -/
def State.accrue (s : State) : State := s.accrueOutage.accruePreview

/-- R8, R11, R97, R137: a local second. The events due at the new clock and the accruals of the second may be taken in
either order (R99, R139): how many events come first is free (DEDUCED, notes/assumptions/5.md). -/
def State.second (s : State) : State :=
  let t := { s with su := s.su.tickClock.countSilence }
  match t.dueNow with
  | [] => t.accrue
  | _ :: ds =>
    let (k, rest) := drawFrom (ds.length + 2) t.choices
    ((({ t with choices := rest }).takeDueUpTo k).accrue).settleDue

/-- R9, R11: a mark restarts the silence monitor and ends SILENT, and PU then clears its silent purchase count. -/
def State.breakSilence (s : State) : State :=
  { s with
    su := { s.su with silenceCount := 0, silent := false }
    pu := if s.su.silent then { s.pu with silentCount := 0 } else s.pu }

/-- R9: an accepted CLOCK_MARK carrying hotel time T. -/
def State.mark (s : State) (t : Nat) : State :=
  if s.su.clock < t then (({ s with su := { s.su with clock := t } }).settleDue).breakSilence
  else ({ s with su := { s.su with marksIgnored := raiseCounter s.su.marksIgnored } }).breakSilence

/-- R11: the silence count reaches 90 and the part becomes SILENT. -/
def State.fallSilent (s : State) : State :=
  { s with su := { s.su with silenceCount := silenceLimit, silent := true } }

/-- R90, R93: one local millisecond passes at every port, the ports in a free order (notes/assumptions/1.md). -/
def State.millisecond (s : State) : State :=
  (s.arranged fun p => !(s.port p).isOff).foldl State.portMillisecond (s.afterArranging fun p => !(s.port p).isOff)

end Sys2Proof.Machine
end

