-- ==== Sys2Proof/Machine/Stay.lean ====
section
/-! DEFINITION. The Stay Unit's events (R2 to R4, R7) and the resets of the whole part (R15, R16, R70, R103). -/

namespace Sys2Proof.Machine

/-- R2: the stay number raised by one, wrapping from 65,535 to 1. -/
def nextStay (n : Nat) : Nat := if n = 65535 then 1 else n + 1

/-- R3: a STAY_OPEN taken while the room is VACANT or SETTLING. -/
def State.openStay (s : State) (f : StayOpenFields) : State :=
  let t := { s with
    su := { s.su with
      stayNumber := nextStay s.su.stayNumber
      spend := 0
      cap := f.cap
      packages := f.packages
      discretion := f.discretion
      occupancy := .occupied }
    lu := s.lu.forGuest f.ceiling f.freeze
    pc := { s.pc with previews := [] }
    pu := { s.pu with silentCount := 0 } }
  (t.reevaluateAll s).migrate

/-- R4: a STAY_CLOSE taken while the room is OCCUPIED. -/
def State.closeStay (s : State) : State :=
  let t := s.closeAll
  let t := { t with
    lu := t.lu.afterStay
    pc := { t.pc with previews := [] }
    su := { t.su with
      lastClosed := some { stay := t.su.stayNumber, net := t.su.spend }
      occupancy := if t.bq.queue.isEmpty then .vacant else .settling } }
  (t.reevaluateAll s).migrate

/-- R7, R154: a ROOM_SETTINGS. -/
def State.applySettings (s : State) (f : SettingsFields) : State :=
  let t := { s with
    su := { s.su with
      group := f.group
      cap := f.cap
      discretion := f.discretion
      packages := f.packages
      vacantFirst := f.vacantFirst
      vacantLast := f.vacantLast
      restarted := false }
    bq := { s.bq with high := f.high, low := f.low, hold := holdTest f.high f.low s.bq.queue.length s.bq.hold }
    md := if f.clearCapture then { s.md with capture := none } else s.md }
  (t.reevaluateAll s).migrate

/-- R16, R70, R103: ROOM_RESET: the alert is ended, every port goes OFF, the key store is emptied and any burst closed. -/
def State.resetRoom (s : State) : State :=
  let t := ((s.setAlert none).turnAllOff s).closeBurst
  { t with ks := t.ks.clear }

/-- R15, R45, R70, R102, R124, R142, R162, R170: power-on reset, which reads the strap pins. The model's own queue and
choices are no state of the part and stay (DESIGN CHOICE, notes/assumptions/21.md); supply start and the reset input are this one
event (DESIGN CHOICE, notes/assumptions/24.md). -/
def State.powerOn (s : State) (strap : BitVec 14) : State :=
  { State.reset with room := strap, choices := s.choices, pending := s.pending }

end Sys2Proof.Machine
end

