-- ==== Sys2Proof/Machine/FeedRows.lean ====
section
/-! DEFINITION. The meanings of POWER_ON_RESET, of the feed units that are no management unit, and of the end of a return
unit's transmission. -/

namespace Sys2Proof.Machine

/-- POWER_ON_RESET (R15): every block takes its power-on state and the room number is read from the strap pins. -/
def execPowerOnReset (strap : BitVec 14) (s : State) : Host.Outcome State Fault Refusal := .next (s.powerOn strap)

/-- MEDIA_UNIT (R20, R21): the unit is delivered to every active port whose resolved stream is its stream. -/
def execMediaUnit (u : Unit96) (s : State) : Host.Outcome State Fault Refusal :=
  asRow u.spellsMedia (s.untied fun s => s.deliver u)

/-- FILLER (R20): discarded without count. -/
def execFiller (u : Unit96) (s : State) : Host.Outcome State Fault Refusal := asRow (u.feedKind == .filler) s

/-- FEED_RETURN_UNIT (R20): another room's return unit, discarded without count. -/
def execFeedReturnUnit (u : Unit96) (s : State) : Host.Outcome State Fault Refusal := asRow (u.feedKind == .ret) s

/-- FORMAT_FAULT (R20): the unit is discarded and format faults is raised. -/
def execFormatFault (u : Unit96) (s : State) : Host.Outcome State Fault Refusal :=
  asRow u.spellsFormatFault { s with sf := { s.sf with formatFaults := raiseCounter s.sf.formatFaults } }

/-- RETURN_TRANSMIT_END (R19, R159): the oldest waiting return unit begins, or nothing is being sent. A part that sends
nothing is left as it is. -/
def execReturnTransmitEnd (s : State) : Host.Outcome State Fault Refusal := .next s.endReturn

end Sys2Proof.Machine
end

