-- ==== Sys2Proof/Machine/Tables.lean ====
section
/-! DEFINITION. Table-load bursts (R32 to R35) and the writes they make: Service Map (R37 to R39), Price Table (R42, R43)
and Stream Remap Table (R22, R24). -/

namespace Sys2Proof.Machine

/-- R33: a TABLE_OPEN's window against the table it names; the burst that was open has closed before. -/
def State.openBurst (s : State) (u : Unit96) (t : Table) : State :=
  let first := (u.byte 4).toNat
  let last := (u.byte 5).toNat
  if first ≤ last ∧ last ≤ t.lastIndex then
    { s with md := { s.md with burst := some { table := t, first := first, last := last, pointer := first, tag := u.byte 6 } } }
  else s.refuse u .bounds

/-- R37 to R39: a Service Map write: the entry is stored, the ports on that channel are re-evaluated, and on the alert
channel the ports in ALERT take their service from it. -/
def State.writeService (s : State) (c : Channel) (e : Option Service) : State :=
  let t := { s with tm := { s.tm with services := s.tm.services.set c e } }
  let onChannel (p : Port) : Bool := (t.port p).home == some c && !(t.port p).isAlert
  let t := t.reevaluateWhere s onChannel
  let t := if t.su.alert.any (·.channel == c) then t.restreamAlerts else t
  t.migrate

/-- R42, R43: a Price Table write: the entry is stored and no port is touched. -/
def State.writePrice (s : State) (k : PriceCode) (e : Option PriceEntry) : State :=
  { s with tm := { s.tm with prices := s.tm.prices.set k e } }

/-- R22, R24: a Stream Remap Table write: the entry is stored and every active port re-resolves its stream. -/
def State.writeRemap (s : State) (i : Fin 8) (e : Option RemapEntry) : State :=
  ({ s with sf := { s.sf with remap := s.sf.remap.set i e } }).restreamAll

/-- R34: entry i of a TABLE_DATA written at an index, in the format of the table. -/
def State.writeEntry (s : State) (u : Unit96) (t : Table) (i index : Nat) : State :=
  match t with
  | .service => s.writeService (channelOf index) (serviceEntry u (t.entryAt i))
  | .price => s.writePrice (Fin.ofNat 32 index) (priceEntry u (t.entryAt i))
  | .remap => s.writeRemap (Fin.ofNat 8 index) (remapEntry u (t.entryAt i))

/-- R34: the pointer passes an index: it advances, and past the last index the burst closes complete. -/
def Burst.advance (b : Burst) : Option Burst := if b.pointer < b.last then some { b with pointer := b.pointer + 1 } else none

/-- R34: an entry left untaken after the burst has closed is dropped and counted. -/
def State.dropEntry (s : State) : State := { s with md := { s.md with overruns := raiseCounter s.md.overruns } }

/-- R34, step 3: one entry of a TABLE_DATA, in the format of table t, written at the open burst's pointer or dropped. -/
def State.takeEntry (u : Unit96) (t : Table) (s : State) (i : Nat) : State :=
  match s.md.burst with
  | none => s.dropEntry
  | some b =>
    let s := s.writeEntry u t i b.pointer
    { s with md := { s.md with burst := b.advance } }

/-- R34: a TABLE_DATA against the burst state. -/
def State.takeData (s : State) (u : Unit96) : State :=
  match s.md.burst with
  | none => s.refuse u .noBurst
  | some b =>
    if b.tag != dataTag u then s.refuse u .noBurst
    else if dataCount u = 0 ∨ b.table.maxEntries < dataCount u then s.refuse u .badField
    else (List.range (dataCount u)).foldl (State.takeEntry u b.table) s

end Sys2Proof.Machine
end

