-- ==== Sys2Proof/Machine/ManagementRows.lean ====
section
/-! DEFINITION. The meanings of the management units (R25 to R31, R172, R173). Each says by `MgmtRow` whether its kind
closes an open burst, whether it must be addressed to the room's own number, and whether its coded fields are in range;
then comes what the owner does. -/

namespace Sys2Proof.Machine

/-- BAD_KIND (R28, R31): refused BAD_KIND; an open burst closes first. -/
def execBadKind (u : Unit96) (s : State) : Host.Outcome State Fault Refusal :=
  asRow u.spellsBadKind <| s.manage u { closesBurst := true, roomOnly := false, fieldsOk := true }
    fun s => s.refuse u .badKind

/-- CLOCK_MARK (R9, R11). -/
def execClockMark (u : Unit96) (s : State) : Host.Outcome State Fault Refusal :=
  asRow (u.spellsMgmt 1) <| s.manage u { closesBurst := false, roomOnly := false, fieldsOk := true }
    fun s => s.untied fun s => s.mark (markTime u)

/-- R58 to R62: a KEY_LOAD at KS. -/
def State.loadKey (s : State) (group : Nat) (phase : KeyPhase) (k : PhaseKey) (u : Unit96) : State :=
  if 0 < k.expiry ∧ k.expiry ≤ s.su.clock then s.refuse u .expired
  else { s with ks := s.placeKey group phase k }

/-- KEY_LOAD (R58 to R62, R173). -/
def execKeyLoad (u : Unit96) (s : State) : Host.Outcome State Fault Refusal :=
  asRow (u.spellsMgmt 2) <| s.manage u { closesBurst := false, roomOnly := false, fieldsOk := keyLoadFieldsOk u }
    fun s => s.loadKey (keyGroupField u) ((keyPhaseField u).getD .a) { word := controlWord u, expiry := keyExpiry u } u

/-- KEY_PURGE (R67, R173), all-groups flag clear; migration follows (R63). -/
def execKeyPurge (u : Unit96) (s : State) : Host.Outcome State Fault Refusal :=
  asRow (u.spellsPurge false) <| s.manage u { closesBurst := false, roomOnly := false, fieldsOk := keyPurgeFieldsOk u }
    fun s => ({ s with ks := s.ks.purge (keyGroupField u) }).migrate

/-- KEY_PURGE with the all-groups flag set (R68); the group field is not read (R173). -/
def execKeyPurgeAllGroups (u : Unit96) (s : State) : Host.Outcome State Fault Refusal :=
  asRow (u.spellsPurge true) <| s.manage u { closesBurst := false, roomOnly := false, fieldsOk := true }
    fun s => { s with ks := s.ks.clear }

/-- TABLE_OPEN (R33, R173). -/
def execTableOpen (u : Unit96) (s : State) : Host.Outcome State Fault Refusal :=
  asRow (u.spellsMgmt 4) <|
    s.manage u { closesBurst := true, roomOnly := false, fieldsOk := (tableField u).isSome }
      fun s => s.openBurst u ((tableField u).getD .service)

/-- TABLE_DATA (R34, R37 to R39, R42, R43, R22, R24). -/
def execTableData (u : Unit96) (s : State) : Host.Outcome State Fault Refusal :=
  asRow (u.spellsMgmt 5) <| s.manage u { closesBurst := false, roomOnly := false, fieldsOk := true }
    fun s => s.untied fun s => s.takeData u

/-- STAY_OPEN (R2, R3). -/
def execStayOpen (u : Unit96) (s : State) : Host.Outcome State Fault Refusal :=
  asRow (u.spellsMgmt 6) <| s.manage u { closesBurst := true, roomOnly := false, fieldsOk := true }
    fun s => if s.isOccupied then s.refuse u .occupied else s.untied fun s => s.openStay (stayOpenFields u)

/-- STAY_CLOSE (R4); in a room that is not OCCUPIED it has no effect but the burst's close. -/
def execStayClose (u : Unit96) (s : State) : Host.Outcome State Fault Refusal :=
  asRow (u.spellsMgmt 7) <| s.manage u { closesBurst := true, roomOnly := false, fieldsOk := true }
    fun s => if s.isOccupied then s.untied State.closeStay else s

/-- ROOM_SETTINGS (R7, R154). -/
def execRoomSettings (u : Unit96) (s : State) : Host.Outcome State Fault Refusal :=
  asRow (u.spellsMgmt 8) <| s.manage u { closesBurst := true, roomOnly := false, fieldsOk := true }
    fun s => s.untied fun s => s.applySettings (settingsFields u)

/-- SET_CEILING (R119); an order outside the six is refused BAD_FIELD (R173, notes/assumptions/13.md). -/
def execSetCeiling (u : Unit96) (s : State) : Host.Outcome State Fault Refusal :=
  asRow u.spellsSetCeiling <| s.manage u { closesBurst := true, roomOnly := false, fieldsOk := orderOk u }
    fun s => s.untied fun s => s.setCeiling (ceilingValue u)

/-- END_UNLOCKS (R119). -/
def execEndUnlocks (u : Unit96) (s : State) : Host.Outcome State Fault Refusal :=
  asRow (u.spellsOrder 5) <| s.manage u { closesBurst := true, roomOnly := false, fieldsOk := orderOk u }
    fun s => s.untied State.endUnlocks

/-- CLEAR_PIN (R120). -/
def execClearPin (u : Unit96) (s : State) : Host.Outcome State Fault Refusal :=
  asRow (u.spellsOrder 2) <| s.manage u { closesBurst := true, roomOnly := false, fieldsOk := orderOk u }
    fun s => { s with lu := s.lu.clearPin }

/-- END_LOCKOUT (R120): a lockout in force ends and strict mode does not turn on. -/
def execEndLockout (u : Unit96) (s : State) : Host.Outcome State Fault Refusal :=
  asRow (u.spellsOrder 6) <| s.manage u { closesBurst := true, roomOnly := false, fieldsOk := orderOk u }
    fun s => { s with lu := { s.lu with lockout := none } }

/-- FREEZE (R121). -/
def execFreeze (u : Unit96) (s : State) : Host.Outcome State Fault Refusal :=
  asRow (u.spellsOrder 3) <| s.manage u { closesBurst := true, roomOnly := false, fieldsOk := orderOk u }
    fun s => { s with lu := { s.lu with frozen := true } }

/-- UNFREEZE (R121). -/
def execUnfreeze (u : Unit96) (s : State) : Host.Outcome State Fault Refusal :=
  asRow (u.spellsOrder 4) <| s.manage u { closesBurst := true, roomOnly := false, fieldsOk := orderOk u }
    fun s => { s with lu := { s.lu with frozen := false } }

/-- HOUSE_ALERT (R12, R13). -/
def execHouseAlert (u : Unit96) (s : State) : Host.Outcome State Fault Refusal :=
  asRow u.spellsAlert <| s.manage u { closesBurst := true, roomOnly := false, fieldsOk := true }
    fun s => s.untied fun s =>
      (s.orderAlert { channel := alertChannel u, endTime := holdDue (s.su.clock + alertSeconds u) }).settleHeld

/-- HOUSE_ALERT with duration 0 (R14); with no alert active it has no effect but the burst's close. -/
def execHouseAlertStop (u : Unit96) (s : State) : Host.Outcome State Fault Refusal :=
  asRow u.spellsAlertStop <| s.manage u { closesBurst := true, roomOnly := false, fieldsOk := true }
    fun s => if s.su.alert.isSome then s.untied State.endAlert else s

/-- POLL, variant BILLING (R29, R156); a variant outside the two is refused BAD_FIELD (R173, notes/assumptions/13.md). -/
def execPollBilling (u : Unit96) (s : State) : Host.Outcome State Fault Refusal :=
  asRow u.spellsPollBilling <| s.manage u { closesBurst := false, roomOnly := true, fieldsOk := variantOk u }
    fun s => s.handReturn s.billingUnit

/-- POLL, variant CAPTURE (R29, R158). -/
def execPollCapture (u : Unit96) (s : State) : Host.Outcome State Fault Refusal :=
  asRow u.spellsPollCapture <| s.manage u { closesBurst := false, roomOnly := true, fieldsOk := variantOk u }
    fun s => s.handReturn s.captureUnit

/-- RELEASE (R29, R160). -/
def execRelease (u : Unit96) (s : State) : Host.Outcome State Fault Refusal :=
  asRow (u.spellsMgmt 12) <| s.manage u { closesBurst := true, roomOnly := true, fieldsOk := true }
    fun s => s.releaseTo (releaseSeq u)

/-- ROOM_RESET (R16, R70, R103, R142, R170): its notices stand behind the units of a request taken before it. -/
def execRoomReset (u : Unit96) (s : State) : Host.Outcome State Fault Refusal :=
  asRow (u.spellsMgmt 13) <| s.manage u { closesBurst := true, roomOnly := false, fieldsOk := true }
    fun s => s.atTail State.resetRoom

end Sys2Proof.Machine
end

