-- ==== Sys2Proof/Machine/Listing.lean ====
section
/-! DEFINITION. The listing (R46 to R50): which channels a port may know of and what each entry carries. -/

namespace Sys2Proof.Machine

/-- R47: a PRESENT channel is visible to a port. -/
def State.visible (s : State) (p : Port) (c : Channel) (e : Service) : Bool :=
  decide (e.rating ≤ s.effectiveCeiling p) &&
    (s.isOccupied || e.tier == .house || inWindow s.su.vacantFirst s.su.vacantLast c)

/-- R48: the entitled field. -/
def State.entitled (s : State) : Tier → Bool
  | .house => true
  | .free => true
  | .package n => s.su.packages.getLsbD n.val
  | .film title _ => (s.purchase title).isSome

/-- R48, R49: an entry for a tier other than FILM: every FILM field is clear or 0. -/
def State.plainEntry (s : State) (p : Port) (c : Channel) (e : Service) : ListEntry where
  port        := p
  channel     := c
  tier        := e.tier
  rating      := e.rating
  entitled    := s.entitled e.tier
  priced      := false
  charge      := 0
  offPeak     := false
  purchased   := false
  remaining   := 0
  previewLeft := 0

/-- R49: the FILM fields, for a title that an open purchase holds or does not hold, under its price entry. -/
def State.filmEntry (s : State) (p : Port) (c : Channel) (e : Service) (title : Nat) (k : PriceCode) : ListEntry :=
  let plain := s.plainEntry p c e
  match s.purchase title, s.price k with
  | some held, entry =>
    { plain with priced := entry.isSome, purchased := true, remaining := held.windowEnd - s.su.clock }
  | none, none => plain
  | none, some entry =>
    { plain with
      priced := true
      charge := entry.charge s.su.clock
      offPeak := entry.isOffPeak s.su.clock
      previewLeft := previewLeft (some entry) (s.previewRecord title) }

/-- R48: the entry of a PRESENT channel. -/
def State.listEntry (s : State) (p : Port) (c : Channel) (e : Service) : ListEntry :=
  match e.tier with
  | .film title k => s.filmEntry p c e title k
  | _ => s.plainEntry p c e

/-- R46: the channels examined, from the first upward, count in all, stopping at channel 255. -/
def examined (first : Channel) (count : Nat) : List Channel :=
  ((List.range count).map (first.val + ·)).filter (· ≤ 255) |>.map channelOf

/-- R46, R50: the listing composed whole: one entry for each channel examined that is PRESENT and visible. -/
def State.listing (s : State) (p : Port) (first : Channel) (count : Nat) : List ListEntry :=
  (examined first count).filterMap fun c =>
    (s.entry c).bind fun e => if s.visible p c e then some (s.listEntry p c e) else none

end Sys2Proof.Machine
end

