-- ==== Sys2Proof/Machine/Requests.lean ====
section
/-! DEFINITION. What each request of the room sets does once it is taken (R86, R87, R108 to R112, R127 to R134, R46, R168,
R169), RL's checks (R165) and its replies (R163, R166). -/

namespace Sys2Proof.Machine

/-- R163, R164, R167: the one reply to a request, placed last. A later event's units may come to stand between it and the
request's other units (`State.untied`, notes/assumptions/29.md). -/
def State.answer (s : State) (u : Unit96) (code : ReplyCode) (detail : Nat) : State :=
  s.send (.reply { port := replyPort u, kind := requestKind u, code := code, detail := detail, report := none })

/-- R165: a request that fails RL's check reaches no owner and is answered BAD_REQUEST. -/
def State.checked (s : State) (u : Unit96) (ok : Bool) (owner : State → State) : State :=
  if ok then owner s else s.answer u .badRequest 0

/-! ## TUNE, OFF, BUY and CANCEL -/

/-- R86: TUNE. -/
def State.requestTune (s : State) (u : Unit96) : State :=
  s.checked u (portOk u && channelOk u) fun s =>
    let p := portField u
    let c := channelField u
    ((s.tunePort p c).announce s).migrate.answer u (s.tuneReply p c) 0

/-- R87: OFF. -/
def State.requestOff (s : State) (u : Unit96) : State :=
  s.checked u (portOk u) fun s => ((s.turnOff s (portField u)).migrate).answer u .ok 0

/-- R127, R128, R129: the first check of a BUY that applies, on a FILM channel with a price entry; none when all pass. -/
def State.buyRefusal (s : State) (p : Port) (c : Channel) : Option ReplyCode :=
  if s.su.alert.isSome then some .alertActive
  else match s.entry c with
    | none => some .noChannel
    | some e =>
      if !s.isOccupied then some .notOccupied
      else match e.tier with
        | .film title k =>
          if s.effectiveCeiling p < e.rating then some .locked
          else if (s.purchase title).isSome then some .shared
          else if s.bq.hold then some .hold
          else if purchaseMax ≤ s.pu.purchases.length then some .tableFull
          else if s.su.silent && silentBuyMax ≤ s.pu.silentCount then some .silentLimit
          else match s.price k with
            | none => some .noPrice
            | some entry => if withinCap s.su.spend (entry.charge s.su.clock) s.su.cap then none else some .cap
        | _ => some .notFilm

/-- R130, step 1: the entry of an accepted BUY. -/
def State.newPurchase (s : State) (title : Nat) (k : PriceCode) (rating : Nat) (entry : PriceEntry) : Purchase where
  title     := title
  price     := k
  rating    := rating
  start     := s.su.clock
  window    := entry.window
  windowEnd := holdDue (s.su.clock + entry.window)
  charge    := entry.charge s.su.clock
  offPeak   := entry.isOffPeak s.su.clock
  silent    := s.su.silent
  outage    := 0

/-- R130, steps 1 to 5: the entry, spend, the PURCHASE record, the preview taken up and the silent purchase count. -/
def State.recordBuy (s : State) (e : Purchase) (preview : Nat) : State :=
  let t := { s with pu := { s.pu with purchases := s.pu.purchases ++ [e] } }
  let t := ((t.raiseSpend e.charge).bill e .purchase e.charge s.su.clock).takeUpPreview e.title preview
  if s.su.silent then { t with pu := { t.pu with silentCount := t.pu.silentCount + 1 } } else t

/-- R130, step 6: the named port is tuned, and every other port on the title is re-evaluated. -/
def State.playTitle (s before : State) (p : Port) (c : Channel) (title : Nat) : State :=
  let t := s.tunePort p c
  ((t.reevaluateEach fun q => q != p && t.carries q title).announce before).migrate

/-- R130: an accepted BUY of the film on a channel. -/
def State.acceptBuy (s : State) (p : Port) (c : Channel) : State :=
  match s.entry c with
  | some { tier := .film title k, rating := rating, .. } =>
    match s.price k with
    | some entry => (s.recordBuy (s.newPurchase title k rating entry) entry.preview).playTitle s p c title
    | none => s
  | _ => s

/-- R127 to R130: BUY. A shared BUY tunes the port (R128). -/
def State.requestBuy (s : State) (u : Unit96) : State :=
  s.checked u (portOk u && channelOk u) fun s =>
    let p := portField u
    let c := channelField u
    match s.buyRefusal p c with
    | none => ((s.acceptBuy p c).answer u .ok 0).atTail State.settleHeld
    | some .shared => ((s.tunePort p c).announce s).migrate.answer u .shared 0
    | some code => s.answer u code 0

/-- R133: the open purchase of the title on the port's home channel. -/
def State.cancelTarget (s : State) (p : Port) : Option Purchase :=
  ((s.port p).home.bind s.titleOn).bind s.purchase

/-- R134: a CANCEL that is taken. -/
def State.voidPurchase (s : State) (e : Purchase) : State :=
  let t := ((s.removePurchase e.title).lowerSpend e.charge).bill e .void e.charge s.su.clock
  (t.reevaluateTitle s e.title).migrate

/-- R133, R134: CANCEL. -/
def State.requestCancel (s : State) (u : Unit96) : State :=
  s.checked u (portOk u) fun s =>
    match s.cancelTarget (portField u) with
    | none => s.answer u .nothingToCancel 0
    | some e =>
      if graceSeconds < s.su.clock - e.start then s.answer u .graceOver 0
      else (s.voidPurchase e).answer u .ok 0

/-! ## The lock requests -/

/-- R113: a wrong PIN answered. -/
def State.answerWrongPin (s : State) (u : Unit96) : State :=
  let (t, code, detail) := s.wrongPin
  t.answer u code detail

/-- R112: a request refused in a lockout; the detail is the seconds until it ends. -/
def State.answerLockout (s : State) (u : Unit96) (endTime : Nat) : State := s.answer u .lockout (endTime - s.su.clock)

/-- R108: PIN_UNLOCK. -/
def State.requestPinUnlock (s : State) (u : Unit96) : State :=
  s.checked u (portOk u && pinOk u 3) fun s =>
    let seconds := 60 * unlockMinutes u
    if s.lu.frozen then s.answer u .frozen 0
    else if s.lu.pin.isNone then s.answer u .noPin 0
    else match s.lu.lockout with
      | some t => s.answerLockout u t
      | none =>
        if s.lu.pinRight (pinField u 3) then
          ((s.unlockPort (portField u) seconds).answer u .ok seconds).atTail State.settleHeld
        else (s.answerWrongPin u).atTail State.settleHeld

/-- R109, step 6: the new PIN stored; failures are set to 0 when a PIN was set. -/
def LockUnit.storePin (lu : LockUnit) (pin : List Nat) : LockUnit :=
  { lu with pin := some pin, failures := if lu.pin.isSome then 0 else lu.failures }

/-- R109: PIN_SET. -/
def State.requestPinSet (s : State) (u : Unit96) : State :=
  s.checked u (pinOk u 1 && pinOk u 10) fun s =>
    if s.lu.frozen then s.answer u .frozen 0
    else if !s.isOccupied then s.answer u .notOccupied 0
    else match s.lu.lockout with
      | some t => s.answerLockout u t
      | none =>
        if (pinField u 10).length < 4 then s.answer u .badRequest 0
        else if s.lu.pin.isNone || s.lu.pinRight (pinField u 1) then
          ({ s with lu := s.lu.storePin (pinField u 10) }).answer u .ok 0
        else (s.answerWrongPin u).atTail State.settleHeld

/-- R110: CEILING. -/
def State.requestCeiling (s : State) (u : Unit96) : State :=
  s.checked u (pinOk u 2) fun s =>
    let value := ceilingField u
    if s.lu.frozen then s.answer u .frozen 0
    else if value ≤ s.lu.ceiling then (s.setCeiling value).answer u .ok value
    else if s.lu.pin.isNone then s.answer u .noPin 0
    else match s.lu.lockout with
      | some t => s.answerLockout u t
      | none =>
        if s.lu.pinRight (pinField u 2) then
          (({ s with lu := { s.lu with failures := 0 } }).setCeiling value).answer u .ok value
        else (s.answerWrongPin u).atTail State.settleHeld

/-- R111: RELOCK. -/
def State.requestRelock (s : State) (u : Unit96) : State :=
  s.checked u (portOk u) fun s => (s.endUnlock (portField u)).answer u .ok 0

/-! ## LIST and the queries -/

/-- R46: LIST: its entries, then its reply with their number. -/
def State.requestList (s : State) (u : Unit96) : State :=
  s.checked u (portOk u && channelOk u && listCountOk u) fun s =>
    let entries := s.listing (portField u) (channelField u) (listCount u)
    (entries.foldl (fun t e => t.send (.listEntry e)) s).answer u .ok entries.length

/-- R168: QUERY_PORT: a notice of the port's present record, then the reply. -/
def State.requestQueryPort (s : State) (u : Unit96) : State :=
  s.checked u (portOk u) fun s => (s.send (.notice (portField u) (s.notice (portField u)))).answer u .ok 0

/-- R168: the room as it stands. -/
def State.report (s : State) : RoomReport where
  occupancy := s.su.occupancy
  alert     := s.su.alert.map fun a => (a.channel, a.endTime - s.su.clock)
  ceiling   := s.lu.ceiling
  pinSet    := s.lu.pin.isSome
  lockout   := s.lu.lockout.map (· - s.su.clock)
  strict    := s.lu.strict.isSome
  frozen    := s.lu.frozen
  unlocks   := s.lu.unlocks.map fun t => t.map (· - s.su.clock)
  spend     := s.su.spend
  cap       := s.su.cap

/-- R168: QUERY_ROOM. -/
def State.requestQueryRoom (s : State) (u : Unit96) : State :=
  s.send (.reply { port := replyPort u, kind := requestKind u, code := .ok, detail := 0, report := some s.report })

/-! ## LINK_RESET -/

/-- R169: the pending listings abandoned: their entries leave the list, and each listing's reply, which stays in its
place, counts the entries that had left. A listing's entries stand ahead of its reply; `waiting` is how many of them
have been met. -/
def abandonListings (waiting : Nat) : List LinkUnit → List LinkUnit
  | [] => []
  | .listEntry _ :: us => abandonListings (waiting + 1) us
  | .reply r :: us =>
    if r.kind = 9 then .reply { r with detail := r.detail - waiting } :: abandonListings 0 us
    else .reply r :: abandonListings waiting us
  | u :: us => u :: abandonListings waiting us

/-- R169: RL abandons any pending listing. -/
def State.abandon (s : State) : State :=
  let kept := abandonListings 0 s.rl.transmit
  { s with rl := { s.rl with transmit := kept, ahead := s.rl.ahead - (s.rl.transmit.length - kept.length) } }

/-- R104, R169: LINK_RESET. -/
def State.requestLinkReset (s : State) (u : Unit96) : State :=
  (({ s with lu := s.lu.endUnlocks }).turnAllOff s).migrate.abandon.answer u .ok 0

/-- R165, R175: an unknown request kind is answered BAD_REQUEST, the kind echoed. -/
def State.requestUnknown (s : State) (u : Unit96) : State := s.answer u .badRequest 0

/-! ## Taking a request (R164) -/

/-- R164: a request taken raises the count of unanswered requests. A later event's units stand behind all that waited before
it and behind the first unit it makes (notes/assumptions/29.md). -/
def State.countRequest (s : State) : State :=
  { s with rl := { s.rl with unanswered := s.rl.unanswered + 1, ahead := s.rl.transmit.length + 1 } }

/-- R164: while the receive direction is held the room set holds the unit back, and no unit is lost. A request that is taken
is one event, which places all its units; a later event's may come to stand between them (notes/assumptions/29.md). -/
def State.receive (s : State) (u : Unit96) (owner : State → State) : State :=
  if s.rl.receiveHeld then { s with rl := { s.rl with held := s.rl.held ++ [u] } } else owner s.countRequest

/-- R163, R164: a request unit handed to its owner by its kind. -/
def State.request (s : State) (u : Unit96) : State :=
  match (requestKind u).toNat with
  | 1 => s.requestTune u
  | 2 => s.requestOff u
  | 3 => s.requestBuy u
  | 4 => s.requestCancel u
  | 5 => s.requestPinUnlock u
  | 6 => s.requestPinSet u
  | 7 => s.requestCeiling u
  | 8 => s.requestRelock u
  | 9 => s.requestList u
  | 10 => s.requestQueryPort u
  | 11 => s.requestQueryRoom u
  | 12 => s.requestLinkReset u
  | _ => s.requestUnknown u

/-- R164: when the receive direction opens, the request unit that a set held back longest is taken. -/
def State.takeHeld (s : State) : State :=
  match s.rl.held with
  | [] => s
  | u :: us => if s.rl.receiveHeld then s else ({ s with rl := { s.rl with held := us } }).countRequest.request u

/-- Whether a link unit is a reply. -/
def LinkUnit.isReply : LinkUnit → Bool
  | .reply _ => true
  | _ => false

/-- R164, R167: the oldest unit of the transmit list begins and leaves the list; a reply that leaves lowers the count of
unanswered requests, and the receive direction may open. -/
def State.linkNext (s : State) : State :=
  match s.rl.transmit with
  | [] => { s with rl := { s.rl with sending := none } }
  | u :: us =>
    let t := { s with rl := { s.rl with
      transmit := us
      sending := some u
      ahead := s.rl.ahead - 1
      unanswered := if u.isReply then s.rl.unanswered - 1 else s.rl.unanswered } }
    t.takeHeld

end Sys2Proof.Machine
end

