-- ==== Sys2Proof/Machine/RequestRows.lean ====
section
/-! DEFINITION. The meanings of the room link's rows: the end of a unit's transmission (R167) and what the room sets send
(R163 to R165, R174, R175). -/

namespace Sys2Proof.Machine

/-- LINK_UNIT_SENT (R164, R167). -/
def execLinkUnitSent (s : State) : Host.Outcome State Fault Refusal := .next s.linkNext

/-- NON_REQUEST_UNIT (R163): discarded with no reply. -/
def execNonRequestUnit (u : Unit96) (s : State) : Host.Outcome State Fault Refusal := asRow u.spellsNonRequest s

/-- UNKNOWN_REQUEST_KIND (R165, R175). -/
def execUnknownRequestKind (u : Unit96) (s : State) : Host.Outcome State Fault Refusal :=
  asRow u.spellsUnknownRequest (s.receive u fun s => s.requestUnknown u)

/-- TUNE (R86). -/
def execTune (u : Unit96) (s : State) : Host.Outcome State Fault Refusal :=
  asRow (u.spellsRequest 1) (s.receive u fun s => s.requestTune u)

/-- OFF (R87). -/
def execOff (u : Unit96) (s : State) : Host.Outcome State Fault Refusal :=
  asRow (u.spellsRequest 2) (s.receive u fun s => s.requestOff u)

/-- BUY (R127 to R130). -/
def execBuy (u : Unit96) (s : State) : Host.Outcome State Fault Refusal :=
  asRow (u.spellsRequest 3) (s.receive u fun s => s.requestBuy u)

/-- CANCEL (R133, R134). -/
def execCancel (u : Unit96) (s : State) : Host.Outcome State Fault Refusal :=
  asRow (u.spellsRequest 4) (s.receive u fun s => s.requestCancel u)

/-- PIN_UNLOCK (R108). -/
def execPinUnlock (u : Unit96) (s : State) : Host.Outcome State Fault Refusal :=
  asRow (u.spellsRequest 5) (s.receive u fun s => s.requestPinUnlock u)

/-- PIN_SET (R109). -/
def execPinSet (u : Unit96) (s : State) : Host.Outcome State Fault Refusal :=
  asRow (u.spellsRequest 6) (s.receive u fun s => s.requestPinSet u)

/-- CEILING (R110). -/
def execCeiling (u : Unit96) (s : State) : Host.Outcome State Fault Refusal :=
  asRow (u.spellsRequest 7) (s.receive u fun s => s.requestCeiling u)

/-- RELOCK (R111). -/
def execRelock (u : Unit96) (s : State) : Host.Outcome State Fault Refusal :=
  asRow (u.spellsRequest 8) (s.receive u fun s => s.requestRelock u)

/-- LIST (R46 to R50). -/
def execList (u : Unit96) (s : State) : Host.Outcome State Fault Refusal :=
  asRow (u.spellsRequest 9) (s.receive u fun s => s.requestList u)

/-- QUERY_PORT (R168). -/
def execQueryPort (u : Unit96) (s : State) : Host.Outcome State Fault Refusal :=
  asRow (u.spellsRequest 10) (s.receive u fun s => s.requestQueryPort u)

/-- QUERY_ROOM (R168). -/
def execQueryRoom (u : Unit96) (s : State) : Host.Outcome State Fault Refusal :=
  asRow (u.spellsRequest 11) (s.receive u fun s => s.requestQueryRoom u)

/-- LINK_RESET (R104, R169). -/
def execLinkReset (u : Unit96) (s : State) : Host.Outcome State Fault Refusal :=
  asRow (u.spellsRequest 12) (s.receive u fun s => s.requestLinkReset u)

end Sys2Proof.Machine
end

