-- ==== Sys2Proof/Machine/TimeRows.lean ====
section
/-! DEFINITION. The meanings of the rows of time: the local second (R8), the fall into silence (R11), the due events (R10)
and the port timers (R91, R93). A due event's row is the event happening, as at its own due time, and does nothing where
none is registered (notes/assumptions/2.md). -/

namespace Sys2Proof.Machine

/-- LOCAL_SECOND (R8, R11, R97, R137), with every event that is due at the new clock (R10). -/
def execLocalSecond (s : State) : Host.Outcome State Fault Refusal := .next (s.untied State.second)

/-- SILENT (R11). -/
def execSilent (s : State) : Host.Outcome State Fault Refusal := .next s.fallSilent

/-- KEY_PHASE_EXPIRY (R57), with migration (R63). -/
def execKeyPhaseExpiry (group : Nat) (phase : KeyPhase) (s : State) : Host.Outcome State Fault Refusal :=
  .next (if (s.ks.expiryOf group phase).isSome then s.expireKey group phase else s)

/-- UNLOCK_END (R117). -/
def execUnlockEnd (p : Port) (s : State) : Host.Outcome State Fault Refusal := .next (s.untied fun s => s.endUnlock p)

/-- LOCKOUT_END (R114). -/
def execLockoutEnd (s : State) : Host.Outcome State Fault Refusal :=
  .next (match s.lu.lockout with
    | some due => s.untied fun s => (s.endLockout due).settleHeld
    | none => s)

/-- STRICT_QUIET_END (R115). -/
def execStrictQuietEnd (s : State) : Host.Outcome State Fault Refusal := .next s.endStrict

/-- PURCHASE_WINDOW_END (R135). -/
def execPurchaseWindowEnd (title : Nat) (s : State) : Host.Outcome State Fault Refusal :=
  .next (match s.purchase title with
    | some e => s.untied fun s => s.endWindow e e.windowEnd
    | none => s)

/-- HOUSE_ALERT_END (R14, R101). -/
def execHouseAlertEnd (s : State) : Host.Outcome State Fault Refusal :=
  .next (if s.su.alert.isSome then s.untied State.endAlert else s)

/-- SIGNAL_TIMER_EXPIRY (R91); a timer that is not running has no effect. -/
def execSignalTimerExpiry (p : Port) (s : State) : Host.Outcome State Fault Refusal :=
  .next (s.untied fun s => s.expireSignal p)

/-- BLANK_CADENCE_EXPIRY (R93); a port that is not BLANKED has no cadence. -/
def execBlankCadenceExpiry (p : Port) (s : State) : Host.Outcome State Fault Refusal :=
  .next (s.untied fun s => s.expireCadence p)

end Sys2Proof.Machine
end

