-- ==== Sys2Proof/Machine/Dispatch.lean ====
section
/-! DEFINITION. The meaning of every command: one arm for each row of spec/opcode_table.json. -/

namespace Sys2Proof.Machine

/-- A command's effect on everything but the queue. -/
def exec (i : Instr) (s : State) : Host.Outcome State Fault Refusal :=
  match i with
  | .powerOnReset strap => Sys2Proof.Machine.execPowerOnReset strap s
  | .mediaUnit u => Sys2Proof.Machine.execMediaUnit u s
  | .filler u => Sys2Proof.Machine.execFiller u s
  | .feedReturnUnit u => Sys2Proof.Machine.execFeedReturnUnit u s
  | .formatFault u => Sys2Proof.Machine.execFormatFault u s
  | .badKind u => Sys2Proof.Machine.execBadKind u s
  | .clockMark u => Sys2Proof.Machine.execClockMark u s
  | .keyLoad u => Sys2Proof.Machine.execKeyLoad u s
  | .keyPurge u => Sys2Proof.Machine.execKeyPurge u s
  | .keyPurgeAllGroups u => Sys2Proof.Machine.execKeyPurgeAllGroups u s
  | .tableOpen u => Sys2Proof.Machine.execTableOpen u s
  | .tableData u => Sys2Proof.Machine.execTableData u s
  | .stayOpen u => Sys2Proof.Machine.execStayOpen u s
  | .stayClose u => Sys2Proof.Machine.execStayClose u s
  | .roomSettings u => Sys2Proof.Machine.execRoomSettings u s
  | .setCeiling u => Sys2Proof.Machine.execSetCeiling u s
  | .endUnlocks u => Sys2Proof.Machine.execEndUnlocks u s
  | .clearPin u => Sys2Proof.Machine.execClearPin u s
  | .endLockout u => Sys2Proof.Machine.execEndLockout u s
  | .freeze u => Sys2Proof.Machine.execFreeze u s
  | .unfreeze u => Sys2Proof.Machine.execUnfreeze u s
  | .houseAlert u => Sys2Proof.Machine.execHouseAlert u s
  | .houseAlertStop u => Sys2Proof.Machine.execHouseAlertStop u s
  | .pollBilling u => Sys2Proof.Machine.execPollBilling u s
  | .pollCapture u => Sys2Proof.Machine.execPollCapture u s
  | .returnTransmitEnd => Sys2Proof.Machine.execReturnTransmitEnd s
  | .release u => Sys2Proof.Machine.execRelease u s
  | .roomReset u => Sys2Proof.Machine.execRoomReset u s
  | .localSecond => Sys2Proof.Machine.execLocalSecond s
  | .silent => Sys2Proof.Machine.execSilent s
  | .keyPhaseExpiry group phase => Sys2Proof.Machine.execKeyPhaseExpiry group phase s
  | .unlockEnd port => Sys2Proof.Machine.execUnlockEnd port s
  | .lockoutEnd => Sys2Proof.Machine.execLockoutEnd s
  | .strictQuietEnd => Sys2Proof.Machine.execStrictQuietEnd s
  | .purchaseWindowEnd title => Sys2Proof.Machine.execPurchaseWindowEnd title s
  | .houseAlertEnd => Sys2Proof.Machine.execHouseAlertEnd s
  | .signalTimerExpiry port => Sys2Proof.Machine.execSignalTimerExpiry port s
  | .blankCadenceExpiry port => Sys2Proof.Machine.execBlankCadenceExpiry port s
  | .linkUnitSent => Sys2Proof.Machine.execLinkUnitSent s
  | .nonRequestUnit u => Sys2Proof.Machine.execNonRequestUnit u s
  | .unknownRequestKind u => Sys2Proof.Machine.execUnknownRequestKind u s
  | .tune u => Sys2Proof.Machine.execTune u s
  | .off u => Sys2Proof.Machine.execOff u s
  | .buy u => Sys2Proof.Machine.execBuy u s
  | .cancel u => Sys2Proof.Machine.execCancel u s
  | .pinUnlock u => Sys2Proof.Machine.execPinUnlock u s
  | .pinSet u => Sys2Proof.Machine.execPinSet u s
  | .ceiling u => Sys2Proof.Machine.execCeiling u s
  | .relock u => Sys2Proof.Machine.execRelock u s
  | .list u => Sys2Proof.Machine.execList u s
  | .queryPort u => Sys2Proof.Machine.execQueryPort u s
  | .queryRoom u => Sys2Proof.Machine.execQueryRoom u s
  | .linkReset u => Sys2Proof.Machine.execLinkReset u s

end Sys2Proof.Machine
end

