-- ==== Sys2Proof/Machine/Step.lean ====
section
/-! DEFINITION. One step: the command at the front of the queue, or one local millisecond where none waits. -/

namespace Sys2Proof.Machine

/-- The command at the front of the queue runs on the state with the queue's rest: one queue for all senders, and one step
for a whole unit (DESIGN CHOICE, notes/assumptions/17.md, notes/assumptions/18.md). On an empty queue a local millisecond
passes at the ports (R90, R93), for which the table has no row (DESIGN CHOICE, notes/assumptions/1.md). -/
def step (s : State) : Host.Outcome State Fault Refusal :=
  match s.pending with
  | [] => .next (s.untied State.millisecond)
  | c :: rest => exec c { s with pending := rest }

/-- The state with the command that a word spells put at the front of its queue; no word spells one, because no row of
the table gives bits (notes/assumptions/16.md). -/
def State.withFetchWord (s : State) (nbits w : Nat) : State :=
  match decodeTableWord nbits w with
  | none => s
  | some c => { s with pending := c :: s.pending }

end Sys2Proof.Machine
end

