-- ==== Sys2Proof/Machine/Layouts.lean ====
section
/-! DEFINITION. The 96 bytes of every unit the part sends: link units (R174) and return units (R176, R177). Unnamed bytes
are 0. -/

namespace Sys2Proof.Machine

/-! ## Fields of more than one byte, most significant byte first (R171) -/

/-- One byte; a value is taken modulo 256. -/
def be1 (n : Nat) : List Byte := [BitVec.ofNat 8 n]

/-- Two bytes. -/
def be2 (n : Nat) : List Byte := be1 (n / 256) ++ be1 n

/-- Three bytes. -/
def be3 (n : Nat) : List Byte := be1 (n / 65536) ++ be2 n

/-- Four bytes. -/
def be4 (n : Nat) : List Byte := be2 (n / 65536) ++ be2 n

/-- A flag at a bit position. -/
def flagAt (b : Bool) (i : Nat) : Nat := b.toNat * 2 ^ i

/-! ## Codes -/

/-- R174: NOTICE, the state. -/
def PortState.code : PortState → Nat
  | .off => 0
  | .playing => 1
  | .preview => 2
  | .blanked => 3
  | .alert => 4

/-- R174: a blank reason; 0 stands for none. -/
def BlankReason.code : BlankReason → Nat
  | .vacant => 1
  | .locked => 2
  | .notEntitled => 3
  | .notPurchased => 4
  | .previewOver => 5

/-- R174: a delivery condition; 0 stands for none. -/
def Delivery.code : Delivery → Nat
  | .flowing => 1
  | .noSignal => 2
  | .noKey => 3

/-- R172, R174: a tier. -/
def Tier.code : Tier → Nat
  | .house => 0
  | .free => 1
  | .package _ => 2
  | .film _ _ => 3

/-- R48: the package number an entry carries, 0 for other tiers. -/
def Tier.packageNumber : Tier → Nat
  | .package n => n.val
  | _ => 0

/-- R48: the title code an entry carries, 0 for other tiers. -/
def Tier.titleCode : Tier → Nat
  | .film t _ => t
  | _ => 0

/-- R174: a reply code, numbered in the order of R166. -/
def ReplyCode.code : ReplyCode → Nat
  | .ok => 0
  | .shared => 1
  | .alertActive => 2
  | .noChannel => 3
  | .notOccupied => 4
  | .notFilm => 5
  | .noPrice => 6
  | .locked => 7
  | .hold => 8
  | .tableFull => 9
  | .silentLimit => 10
  | .cap => 11
  | .nothingToCancel => 12
  | .graceOver => 13
  | .wrongPin => 14
  | .lockoutStarted => 15
  | .lockout => 16
  | .frozen => 17
  | .noPin => 18
  | .badRequest => 19

/-- R174, R176: the occupancy. -/
def Occupancy.code : Occupancy → Nat
  | .vacant => 0
  | .occupied => 1
  | .settling => 2

/-- R176: a refusal reason; 0 stands for none. -/
def RefusalReason.code : RefusalReason → Nat
  | .badKind => 1
  | .badField => 2
  | .roomOnly => 3
  | .bounds => 4
  | .noBurst => 5
  | .occupied => 6
  | .expired => 7

/-- R176: a record kind. -/
def RecordKind.code : RecordKind → Nat
  | .purchase => 0
  | .credit => 1
  | .void => 2

/-- R174: the home and the shown channel, hex FFFF for none. -/
def channelCode (c : Option Channel) : Nat := c.elim 65535 (·.val)

/-! ## Link units (R174) -/

/-- R174: the body of a LIST_ENTRY. -/
def ListEntry.body (e : ListEntry) : List Byte :=
  be1 e.channel.val ++ be1 e.tier.code ++ be1 e.rating ++ be1 e.tier.packageNumber ++
  be1 (flagAt e.entitled 0 + flagAt e.priced 1 + flagAt e.offPeak 2 + flagAt e.purchased 3) ++
  be2 e.tier.titleCode ++ be3 e.charge ++ be4 e.remaining ++ be2 e.previewLeft

/-- R174: a QUERY_ROOM reply from body byte 4. DESIGN CHOICE (notes/assumptions/28.md): the alert byte is 1 with an alert
active and 0 with none; the alert channel and the alert's seconds left are 0 with no alert active, and the lockout's seconds
left 0 with no lockout in force. The spec gives that byte no code, and states 0 for none of the unlock seconds alone. -/
def RoomReport.body (r : RoomReport) : List Byte :=
  be1 r.occupancy.code ++
  be1 r.alert.isSome.toNat ++ be1 (r.alert.elim 0 (·.1.val)) ++ be2 (r.alert.elim 0 (·.2)) ++
  be1 r.ceiling ++
  be1 (flagAt r.pinSet 0 + flagAt r.lockout.isSome 1 + flagAt r.strict 2 + flagAt r.frozen 3) ++
  be2 (r.lockout.getD 0) ++
  r.unlocks.toList.flatMap (fun t => be2 (t.getD 0)) ++
  be3 r.spend ++ be3 r.cap

/-- R174: the body of a NOTICE. -/
def NoticeFields.body (f : NoticeFields) : List Byte :=
  be1 f.state.code ++ be1 (f.reason.elim 0 BlankReason.code) ++ be1 (f.delivery.elim 0 Delivery.code) ++
  be2 (channelCode f.home) ++ be2 (channelCode f.shown)

/-- R174: the body of a REPLY. -/
def Reply.body (r : Reply) : List Byte :=
  be1 r.kind.toNat ++ be1 r.code.code ++ be2 r.detail ++ r.report.elim [] RoomReport.body

/-- R174: the 96 bytes of a unit the part sends to the room sets. -/
def LinkUnit.frame : LinkUnit → Unit96
  | .programme p stream count body =>
    { (Unit96.ofBytes (be1 0x10 ++ be1 p.val ++ be2 stream ++ be1 count) []) with body := body }
  | .blank p r home => Unit96.ofBytes (be1 0x11 ++ be1 p.val) (be1 r.code ++ be2 home.val)
  | .notice p f => Unit96.ofBytes (be1 0x12 ++ be1 p.val) f.body
  | .listEntry e => Unit96.ofBytes (be1 0x13 ++ be1 e.port.val) e.body
  | .reply r => Unit96.ofBytes (be1 0x14 ++ be1 r.port.toNat) r.body

/-! ## Return units (R176, R177) -/

/-- R176: a port's four bits; a delivery condition is present exactly in the three active states (R82). -/
def PortStatus.code (p : PortStatus) : Nat :=
  let step := p.delivery.elim 0 fun d => d.code - 1
  match p.state with
  | .off => 0
  | .blanked => p.reason.elim 0 BlankReason.code
  | .playing => 6 + step
  | .preview => 9 + step
  | .alert => 12 + step

/-- R176: the four ports in two bytes, P0 in bits 15 to 12. -/
def portsCode (ports : Vector PortStatus 4) : Nat := ports.toList.foldl (fun n p => n * 16 + p.code) 0

/-- R176: header bytes 4 to 7. -/
def Summary.header (m : Summary) : List Byte :=
  be2 (m.occupancy.code * 16384 + m.room.toNat) ++ be1 m.group.val ++
  be1 (flagAt m.silent 0 + flagAt m.restarted 1 + flagAt m.hold 2 + flagAt m.captureHeld 3 + flagAt m.pinSet 4 +
    flagAt m.lockedOut 5 + flagAt m.strict 6 + flagAt m.frozen 7)

/-- R176, R177: body bytes 0 to 41; `variant` is 1 for CAPTURE. -/
def Summary.body (m : Summary) (variant : Bool) : List Byte :=
  be2 m.stayNumber ++ be4 m.clock ++
  be2 (m.ceiling * 8192 + (m.lastRefusal.elim 0 (·.reason.code)) * 1024 + flagAt m.lastClosed.isSome 9 +
    flagAt variant 6 + m.depth) ++
  be2 m.nextSeq ++ be3 m.spend ++ be3 m.cap ++ be2 (portsCode m.ports) ++
  be2 m.formatFaults ++ be2 m.checkFailures ++ be2 m.refusals ++ be2 m.overruns ++ be2 m.dropped ++
  be2 m.marksIgnored ++ be2 m.keysReplaced ++ be2 m.keysDisplaced ++
  be1 (m.lastRefusal.elim 0 (·.kind.toNat)) ++ be4 (m.lastRefusal.elim 0 (·.clock)) ++
  be3 (m.lastClosed.elim 0 (·.net))

/-- R176: the three flags of one record, bit 2 category ADULT, bit 1 OFF_PEAK, bit 0 SILENT. -/
def BillingRecord.flags (r : BillingRecord) : Nat :=
  flagAt (r.category == .adult) 2 + flagAt r.offPeak 1 + flagAt r.silent 0

/-- R176: the record flags of a unit, record i in bits 3i + 2 to 3i. -/
def recordFlags : List BillingRecord → Nat
  | [] => 0
  | r :: rs => r.flags + 8 * recordFlags rs

/-- R176: an 11-byte record slot. -/
def BillingRecord.slot (r : BillingRecord) : List Byte :=
  be2 r.stay ++ be2 r.title ++ be4 r.time ++ be3 (r.kind.code * 4194304 + r.price.val * 131072 + r.amount)

/-- R176: the capture record as a CAPTURE unit carries it; an empty one is sent as zeros (R177). -/
def Capture.bytes (c : Capture) : List Byte := c.header.toList ++ c.body.toList ++ be4 c.clock

/-- R176: body bytes 42 to 87. -/
def ReturnContent.body : ReturnContent → List Byte
  | .billing records => be2 (recordFlags records) ++ records.flatMap BillingRecord.slot
  | .capture record => be2 0 ++ record.elim [] Capture.bytes

/-- R176: whether a unit is of the variant CAPTURE. -/
def ReturnContent.isCapture : ReturnContent → Bool
  | .billing _ => false
  | .capture _ => true

/-- R19, R176, R177: the 96 bytes of a return unit: kind 4, stream 4095, phase CLEAR and the continuity count as stamped,
then the summary and the records or the capture. -/
def SentReturn.frame (r : SentReturn) : Unit96 :=
  Unit96.ofBytes (be1 4 ++ be2 4095 ++ be1 r.count ++ r.unit.summary.header)
    (r.unit.summary.body r.unit.content.isCapture ++ r.unit.content.body)

end Sys2Proof.Machine
end

