-- ==== Sys2Proof/Safety.lean ====
section
/-! DEFINITION. The laws of the part: what the spec's prose says holds in the state that every event leaves, each a
decidable property of one state (outside them the operations are total: DESIGN CHOICE, notes/assumptions/22.md); and the
words that statements about several commands share. -/

namespace Sys2Proof.Machine

/-! ## Preview List (R96) -/

/-- R96: at most 8 records, and never two with the same title code. -/
abbrev State.PreviewLaw (s : State) : Prop :=
  s.pc.previews.length ≤ previewMax ∧ (s.pc.previews.map (·.title)).Nodup

/-! ## Purchases and the billing queue (R125, R152 to R155) -/

/-- R125: at most 8 open purchases, and never two with the same title code. -/
abbrev State.PurchaseLaw (s : State) : Prop :=
  s.pu.purchases.length ≤ purchaseMax ∧ (s.pu.purchases.map (·.title)).Nodup

/-- R154: the marks as BQ stores them. -/
abbrev BillingQueue.MarksLaw (bq : BillingQueue) : Prop := 8 ≤ bq.high ∧ bq.high ≤ 40 ∧ bq.low < bq.high

/-- R155: while the hold flag is clear the depth is below the high mark. -/
abbrev BillingQueue.HoldLaw (bq : BillingQueue) : Prop := bq.hold = false → bq.queue.length < bq.high

/-- R153: the queue and the open purchases together never exceed 48, with what the rule derives that from. -/
abbrev State.ReserveLaw (s : State) : Prop :=
  s.PurchaseLaw ∧ s.bq.MarksLaw ∧ s.bq.HoldLaw ∧ s.bq.queue.length + s.pu.purchases.length ≤ 48

/-- R152: from a record with a given number on, each record carries the next number; the number after the last is the next
sequence number. -/
def consecutive (next : Nat) : Nat → List BillingRecord → Bool
  | n, [] => n == next
  | n, r :: rs => r.seq == n && consecutive next ((n + 1) % 65536) rs

/-- R152: the number of the head record, or of the next record in an empty queue. -/
def BillingQueue.headSeq (bq : BillingQueue) : Nat := (bq.queue.head?.map (·.seq)).getD bq.nextSeq

/-- R152: the records carry consecutive sequence numbers, modulo 65,536. -/
abbrev BillingQueue.SequenceLaw (bq : BillingQueue) : Prop :=
  bq.nextSeq < 65536 ∧ consecutive bq.nextSeq bq.headSeq bq.queue = true

/-! ## Money (R6) -/

/-- The charges of the open purchases. -/
def State.openCharges (s : State) : Nat := (s.pu.purchases.map (·.charge)).sum

/-- R6: spend and cap stay within their range, the open charges are covered by spend, and the purchase table is empty
while the room is not OCCUPIED. -/
abbrev State.MoneyLaw (s : State) : Prop :=
  s.PurchaseLaw ∧ s.su.cap ≤ moneyMax ∧ s.su.spend ≤ moneyMax ∧ s.openCharges ≤ s.su.spend ∧
    (s.su.occupancy ≠ .occupied → s.pu.purchases = [])

/-! ## The lock record (R105, R113) -/

/-- R105, R113: outside a lockout failures are below the budget and during one they are 0; without a PIN there are no
failures, no lockout and no strict mode; a PIN has 4 to 8 digits, each 0 to 9, and is held only while OCCUPIED. -/
abbrev State.LockLaw (s : State) : Prop :=
  s.lu.ceiling ≤ 7 ∧
  (s.lu.lockout = none → s.lu.failures < s.lu.budget) ∧
  (s.lu.lockout ≠ none → s.lu.failures = 0) ∧
  (s.lu.pin = none → s.lu.failures = 0 ∧ s.lu.lockout = none ∧ s.lu.strict = none) ∧
  (∀ ds ∈ s.lu.pin, 4 ≤ ds.length ∧ ds.length ≤ 8 ∧ ∀ d ∈ ds, d ≤ 9) ∧
  (s.su.occupancy ≠ .occupied → s.lu.pin = none)

/-! ## Ports (R83, R88, R97, R100, R125) -/

/-- R88, R125: a service of a tier may play while the room stands as it does. -/
def State.mayPlay (s : State) (c : Channel) : Tier → Bool
  | .house => true
  | .free => s.isOccupied || inWindow s.su.vacantFirst s.su.vacantLast c
  | .package n => s.isOccupied && s.su.packages.getLsbD n.val
  | .film title _ => s.isOccupied && (s.purchase title).isSome

/-- R97: a film may be previewed: the room is OCCUPIED, no purchase holds the title, and the title has its record. -/
def State.mayPreview (s : State) : Tier → Bool
  | .film title _ => s.isOccupied && (s.purchase title).isNone && (s.previewRecord title).isSome
  | _ => false

/-- A channel's entry is PRESENT, rated within the port's effective ceiling, and of a tier that passes a test. -/
def State.showable (s : State) (p : Port) (c : Channel) (test : Tier → Bool) : Bool :=
  (s.entry c).any fun e => decide (e.rating ≤ s.effectiveCeiling p) && test e.tier

/-- R88, R97, R100: what holds of one port. -/
def State.portLawful (s : State) (p : Port) : Bool :=
  match s.port p with
  | .off => true
  | .active .alert _ _ _ _ => s.su.alert.isSome
  | .active .playing home _ _ _ => s.su.alert.isNone && s.showable p home (s.mayPlay home)
  | .active .preview home _ _ _ => s.su.alert.isNone && s.showable p home s.mayPreview
  | .blanked _ _ _ => s.su.alert.isNone

/-- R88, R100, R125: no port shows what it may not, and while an alert is active a port is in OFF or in ALERT. -/
abbrev State.PortLaw (s : State) : Prop := ∀ p : Port, s.portLawful p = true

/-- R23, R82: the resolved stream of an active port is the one its service gives. -/
def State.streamTrue (s : State) (p : Port) : Bool :=
  match s.port p with
  | .active v home stream _ _ => stream == s.resolve v home
  | _ => true

/-- R23, R82: the same of every port; a port that is not active has no resolved stream. -/
abbrev State.StreamLaw (s : State) : Prop := ∀ p : Port, s.streamTrue p = true

/-- R90, R91, R93: a signal timer holds 0 to 3,000 ms and a blank cadence 1 to 500 ms; a port whose timer has run out is
not FLOWING. -/
def PortRecord.timed : PortRecord → Bool
  | .active _ _ _ d timer => timer ≤ signalMs && (timer != 0 || d != .flowing)
  | .blanked _ _ n => 1 ≤ n && n ≤ blankMs
  | .off => true

/-- R90, R91, R93: the timers of the four ports. -/
abbrev State.TimerLaw (s : State) : Prop := ∀ p : Port, (s.port p).timed = true

/-! ## The key store (R51, R53, R55, R63) -/

/-- R51, R55: an entry in a place: a group of 0 to 1,022 with at least one valid phase. -/
def KeyEntry.lawful (e : KeyEntry) : Bool := decide (e.group ≤ 1022) && (e.phaseA.isSome || e.phaseB.isSome)

/-- R51: a way of set `i` is free or holds a lawful entry of a group of the set. -/
def wayLawful (i : Fin 32) (way : Option KeyEntry) : Bool := way.all fun e => e.lawful && setOf e.group == i

/-- R51, R53, R55: every entry stands in its set, and each group is held in at most one place. -/
abbrev KeyStore.StoreLaw (ks : KeyStore) : Prop :=
  (∀ i : Fin 32, wayLawful i ks.sets[i].way0 = true ∧ wayLawful i ks.sets[i].way1 = true) ∧
  (∀ e ∈ ks.slot, e.lawful = true) ∧
  (ks.entries.map (·.group)).Nodup

/-- R63: while the arrival slot holds a group of a set, both ways of the set hold pinned groups. -/
abbrev State.SlotLaw (s : State) : Prop :=
  ∀ e ∈ s.ks.slot,
    s.wayPinned s.ks.sets[setOf e.group].way0 = true ∧ s.wayPinned s.ks.sets[setOf e.group].way1 = true

/-! ## Tables and bursts (R22, R32, R33, R36, R41) -/

/-- R36: the ranges of a PRESENT Service Map entry. -/
def Service.lawful (e : Service) : Bool :=
  1 ≤ e.stream && e.stream ≤ 4094 && e.keyGroup.all (· ≤ 1022) && e.rating ≤ 7 &&
    e.tier.title.all fun t => 1 ≤ t && t ≤ 65535

/-- R41: the ranges of a present Price Table entry. -/
def PriceEntry.lawful (e : PriceEntry) : Bool :=
  e.standard ≤ 65535 && e.offPeak ≤ 65535 && e.bandStart ≤ 1439 && e.bandEnd ≤ 1439 && e.tax ≤ 250 &&
    e.preview ≤ 600 && 600 ≤ e.window && e.window ≤ 86400

/-- R22: the ranges of a present Stream Remap Table entry. -/
def RemapEntry.lawful (e : RemapEntry) : Bool :=
  1 ≤ e.first && 1 ≤ e.target && 1 ≤ e.count && e.count ≤ 256 && e.first + e.count ≤ 4095 && e.target + e.count ≤ 4095

/-- R32, R33: an open burst's window lies inside its table and its pointer inside the window. -/
def Burst.lawful (b : Burst) : Bool := b.first ≤ b.pointer && b.pointer ≤ b.last && b.last ≤ b.table.lastIndex

/-- R22, R32, R36, R41: every stored table entry and the burst state are within their ranges. -/
abbrev State.TableLaw (s : State) : Prop :=
  (∀ c : Channel, ∀ e ∈ s.entry c, e.lawful = true) ∧ (∀ k : PriceCode, ∀ e ∈ s.price k, e.lawful = true) ∧
    (∀ i : Fin 8, ∀ e ∈ s.sf.remap[i], e.lawful = true) ∧ (∀ b ∈ s.md.burst, b.lawful = true)

/-! ## Time (R8, R10, R11, R132) -/

/-- R10: every registered event lies ahead of the clock, and no due time above the clock's last value is held. -/
abbrev State.DueLaw (s : State) : Prop :=
  s.su.clock ≤ clockMax ∧ ∀ d ∈ s.dueEvents, s.su.clock < d.1 ∧ d.1 ≤ clockMax

/-- R11, R132: the silence count is at most 90 and stands there only while SILENT; the silent purchase count is at most 2
and is 0 whenever the part is not SILENT. -/
abbrev State.SilenceLaw (s : State) : Prop :=
  s.su.silenceCount ≤ silenceLimit ∧ (s.su.silenceCount = silenceLimit → s.su.silent = true) ∧
    s.pu.silentCount ≤ silentBuyMax ∧ (s.su.silent = false → s.pu.silentCount = 0)

/-! ## Links and counters (00_scope "Numbers", R19, R164) -/

/-- R19: at most 4 return units wait, none waits while none is being sent, and the next count is 0 to 15. -/
abbrev FeedInterface.ReturnLaw (fi : FeedInterface) : Prop :=
  fi.waiting.length ≤ waitingMax ∧ (fi.sending = none → fi.waiting = []) ∧ fi.nextCount < 16

/-- R164: at most 8 requests are unanswered, as many as there are replies still to leave, and units are held back only
while there are 8. -/
abbrev RoomLink.RequestLaw (rl : RoomLink) : Prop :=
  rl.unanswered ≤ requestMax ∧ rl.unanswered = rl.transmit.countP (·.isReply) ∧
    (rl.held ≠ [] → rl.unanswered = requestMax)

/-- 00_scope "Numbers": the diagnostic counters are 16 bits wide. -/
abbrev State.CounterLaw (s : State) : Prop :=
  s.sf.formatFaults ≤ counterMax ∧ s.md.checkFailures ≤ counterMax ∧ s.md.refusals ≤ counterMax ∧
    s.md.overruns ≤ counterMax ∧ s.fi.dropped ≤ counterMax ∧ s.su.marksIgnored ≤ counterMax ∧
    s.ks.replaced ≤ counterMax ∧ s.ks.displaced ≤ counterMax

/-! ## Words that statements share -/

/-- R25, R27: MD accepts the unit: its check word is right and its destination is this room. -/
abbrev State.Takes (s : State) (u : Unit96) : Prop := u.checkOk = true ∧ s.accepts u = true

/-- The rows of the management units, on one unit. -/
def managementRows (u : Unit96) : List Instr :=
  [.badKind u, .clockMark u, .keyLoad u, .keyPurge u, .keyPurgeAllGroups u, .tableOpen u, .tableData u, .stayOpen u,
    .stayClose u, .roomSettings u, .setCeiling u, .endUnlocks u, .clearPin u, .endLockout u, .freeze u, .unfreeze u,
    .houseAlert u, .houseAlertStop u, .pollBilling u, .pollCapture u, .release u, .roomReset u]

/-- R31: the rows whose kind closes an open burst, TABLE_OPEN apart, on one unit. -/
def closingRows (u : Unit96) : List Instr :=
  [.badKind u, .stayOpen u, .stayClose u, .roomSettings u, .setCeiling u, .endUnlocks u, .clearPin u, .endLockout u,
    .freeze u, .unfreeze u, .houseAlert u, .houseAlertStop u, .release u, .roomReset u]

/-- The rows of the requests, on one unit. -/
def requestRows (u : Unit96) : List Instr :=
  [.unknownRequestKind u, .tune u, .off u, .buy u, .cancel u, .pinUnlock u, .pinSet u, .ceiling u, .relock u, .list u,
    .queryPort u, .queryRoom u, .linkReset u]

/-- R30: MD's state after a refusal, with the burst closed or kept (R35). -/
def State.refusedMd (s : State) (u : Unit96) (reason : RefusalReason) (closes : Bool) : ManagementDecoder :=
  { s.md with
    burst := if closes then none else s.md.burst
    refusals := min (s.md.refusals + 1) 65535
    lastRefusal := some { kind := u.body[2], reason := reason, clock := s.su.clock } }

/-- R35: MD's state after a unit that closes an open burst. -/
def State.closedMd (s : State) : ManagementDecoder := { s.md with burst := none }

/-! ## Billing records (R131, R150 to R152, R155) -/

/-- R131, R150, R151: the record that BQ makes of a purchase: ADULT at a rating at purchase of 6 or 7, and then discreet
with title code 0 when discretion is on at the append; not yet sent. -/
def State.recordOf (s : State) (seq : Nat) (e : Purchase) (kind : RecordKind) (amount time : Nat) : BillingRecord :=
  let adult := decide (6 ≤ e.rating)
  { seq := seq, stay := s.su.stayNumber, kind := kind, category := if adult then .adult else .film
    title := if adult && s.su.discretion then 0 else e.title, price := e.price, time := time, amount := amount
    offPeak := e.offPeak, silent := e.silent, discreet := adult && s.su.discretion, sent := false }

/-- R152, R155: a record at the tail under the next sequence number, and the hold flag tested against the new depth. -/
def BillingQueue.joined (bq : BillingQueue) (record : Nat → BillingRecord) : BillingQueue :=
  { bq with
    queue := bq.queue ++ [record bq.nextSeq]
    nextSeq := (bq.nextSeq + 1) % 65536
    hold := holdTest bq.high bq.low (bq.queue.length + 1) bq.hold }

/-! ## A key store with one group changed (R57, R67) -/

/-- R57, R67: the store in which `change` has been made of the entry of a group, wherever it is held. No recency mark, no
counter and no other entry changes. -/
def KeyStore.withGroup (ks : KeyStore) (group : Nat) (change : KeyEntry → Option KeyEntry) : KeyStore :=
  let place (x : Option KeyEntry) : Option KeyEntry := x.bind fun e => if e.group = group then change e else some e
  { ks with
    sets := ks.sets.map fun st => { st with way0 := place st.way0, way1 := place st.way1 }
    slot := place ks.slot }

/-- R55, R57: an entry after a phase has expired, none when its other phase is not valid. -/
def KeyEntry.expired (e : KeyEntry) : KeyPhase → Option KeyEntry
  | .a => if e.phaseB = none then none else some { e with phaseA := none }
  | .b => if e.phaseA = none then none else some { e with phaseB := none }

/-! ## A key store after migration (R63, R64) -/

/-- R63, R64: KS at the end of an event that leaves the ports as in `t`, `s` being the state before the migration. An empty
arrival slot leaves KS as it was. The slot's entry moves into the free way of its set, way 0 first; else into the way
whose group no active port uses, the less recently used of two such, whose group is discarded and counted; it marks that
way and leaves the slot empty. While both groups are in use it stays. Nothing else in KS changes. That the
event's end decides is the model's reading (notes/assumptions/10.md). -/
abbrev KeysMigrated (s t : State) : Prop :=
  (s.ks.slot = none → t.ks = s.ks) ∧
  ∀ e, s.ks.slot = some e →
    let i : Fin 32 := Fin.ofNat 32 e.group
    let here := s.ks.sets[i]
    let inUse (x : KeyEntry) : Prop := ∃ p : Port, t.serviceGroup p = some x.group
    let moved (st : KeySet) (replaced : Nat) : KeyStore :=
      { s.ks with sets := s.ks.sets.set i st, slot := none, replaced := replaced }
    let into0 : KeySet := { here with way0 := some e, recent := .way0 }
    let into1 : KeySet := { here with way1 := some e, recent := .way1 }
    let raised := min (s.ks.replaced + 1) 65535
    (here.way0 = none → t.ks = moved into0 s.ks.replaced) ∧
    (here.way0 ≠ none → here.way1 = none → t.ks = moved into1 s.ks.replaced) ∧
    ∀ e0 e1, here.way0 = some e0 → here.way1 = some e1 →
      (¬ inUse e0 → inUse e1 ∨ here.recent = .way1 → t.ks = moved into0 raised) ∧
      (¬ inUse e1 → inUse e0 ∨ here.recent = .way0 → t.ks = moved into1 raised) ∧
      (inUse e0 → inUse e1 → t.ks = s.ks)

/-! ## Where a decided port ends (R83 to R89, R93, R94, R96) -/

/-- R83, R84: `d` is the outcome of the tune decision for port p and channel c, the Preview List being `previews`. -/
def State.Decides (s : State) (previews : List Preview) (p : Port) (c : Channel) (d : Decision) : Prop :=
  match s.su.alert, s.entry c with
  | some _, _ => d = .alert
  | none, none => d = .absent
  | none, some e =>
    let windowed : Prop := if s.su.vacantFirst ≤ s.su.vacantLast then s.su.vacantFirst ≤ c ∧ c ≤ s.su.vacantLast
      else s.su.vacantFirst ≤ c ∨ c ≤ s.su.vacantLast
    let shut : Prop := s.su.occupancy ≠ .occupied ∧ e.tier ≠ .house ∧ ¬ (e.tier = .free ∧ windowed)
    let ceiling := if s.lu.unlocks[p] ≠ none then 7 else s.lu.ceiling
    (shut → d = .blank .vacant) ∧
    (¬ shut → ceiling < e.rating → d = .blank .locked) ∧
    (¬ shut → e.rating ≤ ceiling → match e.tier with
      | .house => d = .playing
      | .free => d = .playing
      | .package n => d = if s.su.packages.getLsbD n.val = true then .playing else .blank .notEntitled
      | .film title k =>
        let record := previews.find? (·.title == title)
        let length := ((s.price k).map (·.preview)).getD 0
        let used := (record.map (·.seconds)).getD 0
        (s.purchase title ≠ none → d = .playing) ∧
        (s.purchase title = none →
          (used < length → d = .preview) ∧
          (length ≤ used → 0 < length → (∃ r, record = some r ∧ r.bought = false) → d = .blank .previewOver) ∧
          (length ≤ used → (length = 0 ∨ ∀ r, record = some r → r.bought = true) → d = .blank .notPurchased)))

/-- R82, R23: the resolved stream of a channel's service. -/
def State.streamOf (s : State) (c : Channel) : Option Nat := (s.entry c).map fun e => resolveIn s.sf.remap.toList e.stream

/-- R85, R93: the record of a port placed in BLANKED; one that was so already keeps its cadence. -/
def blankedFrom (old : PortRecord) (r : BlankReason) (c : Channel) : PortRecord :=
  if old.reason = some r ∧ old.home = some c then old else .blanked r c 500

/-- R85, R88: the record that a decision on channel c gives a port, `old` being its record before the event. An active port
keeps its delivery, and any other starts at NO_SIGNAL; a port in ALERT that stays there changes only its home channel. An
ABSENT home channel gives BLANKED NOT_ENTITLED. -/
def State.placed (s : State) (old : PortRecord) (c : Channel) : Decision → PortRecord
  | .alert => match old with
    | .active .alert _ stream d timer => .active .alert c stream d timer
    | _ => .active .alert c (s.su.alert.bind fun a => s.streamOf a.channel) (old.delivery.getD .noSignal) 3000
  | .absent => blankedFrom old .notEntitled c
  | .blank r => blankedFrom old r c
  | .playing => .active .playing c (s.streamOf c) (old.delivery.getD .noSignal) 3000
  | .preview => .active .preview c (s.streamOf c) (old.delivery.getD .noSignal) 3000

/-- R85, R93, R94: the units that an event from `before` to `t` makes for a port: its notice, when a field differs, and then
its first blank unit, when it came to BLANKED, or to another reason or home channel there. -/
def announced (before t : State) (p : Port) : List LinkUnit :=
  (if t.notice p = before.notice p then [] else [.notice p (t.notice p)]) ++
    match t.port p with
    | .blanked r c _ =>
      if (before.port p).reason = some r ∧ (before.port p).home = some c then [] else [.blank p r c]
    | _ => []

/-- R167: the list after a unit joins: a blank or programme unit only while fewer than 64 wait. -/
def joinedTo (list : List LinkUnit) (u : LinkUnit) : List LinkUnit := match u with
  | .blank _ _ _ => if list.length < 64 then list ++ [u] else list
  | .programme _ _ _ _ => if list.length < 64 then list ++ [u] else list
  | _ => list ++ [u]

/-- R93 to R95, R167: the list after the units of one event have joined, each port's in their order and the ports' among one
another in any (notes/assumptions/15.md). -/
def Announced (before t : State) (list made : List LinkUnit) : Prop :=
  ∃ units : List LinkUnit, (∀ p : Port, units.filter (fun u => u.portOf == some p) = announced before t p) ∧
    (∀ u ∈ units, u.portOf ≠ none) ∧ made = units.foldl joinedTo list

/-- R96: the Preview List after a record joins: a full list first loses its oldest record whose title is not previewed. -/
def joinedList (previewed : Nat → Bool) (list : List Preview) (r : Preview) : List Preview :=
  (if list.length < 8 then list else list.eraseP fun x => !previewed x.title) ++ [r]

/-- R85, R89, R96: the Preview List after port p has been placed as in `t`, while the ports of `rest` still stand as in
`s`: into PREVIEW for a title that has no record, a record joins with 0 seconds (notes/assumptions/14.md). -/
def listAfter (s t : State) (rest : List Port) (p : Port) (list : List Preview) : List Preview :=
  match t.previewing p with
  | none => list
  | some title =>
    if list.any (·.title == title) then list
    else joinedList (fun x => allPorts.any fun q => (if rest.contains q then s.previewing q else t.previewing q) == some x)
      list { title := title, seconds := 0, bought := false }

/-- R88, R89: the ports taken in an order, from `s`, the state with everything else the event writes, to `t`. A port with a
target channel is decided for it, against the Preview List that the ports before it left, and ends as the decision places
it; any other port stays. -/
def Decided (before s t : State) (target : Port → Option Channel) : List Port → List Preview → Prop
  | [], previews => t.pc.previews = previews
  | p :: rest, previews =>
    match target p with
    | none => t.port p = s.port p ∧ Decided before s t target rest previews
    | some c =>
      (∃ d, t.Decides previews p c d ∧ t.port p = t.placed (before.port p) c d) ∧
        Decided before s t target rest (listAfter s t rest p previews)

/-- Everything outside PC, the free choices, the key store and the room link is the same. -/
abbrev SameOutsidePorts (s t : State) : Prop :=
  t.su = s.su ∧ t.fi = s.fi ∧ t.sf = s.sf ∧ t.md = s.md ∧ t.tm = s.tm ∧ t.lu = s.lu ∧ t.pu = s.pu ∧ t.bq = s.bq ∧
    t.room = s.room ∧ t.pending = s.pending

/-- R63, R88, R89: what an event that decides ports does beyond `s`: the ports are taken in some order, KS migrates, the
units join at the tail, and the free choices may be used up. `before` is the state before the event. -/
abbrev PortsDecided (before s t : State) (target : Port → Option Channel) : Prop :=
  SameOutsidePorts s t ∧ KeysMigrated s t ∧
    (∃ order : List Port, order.Perm allPorts ∧ Decided before s t target order s.pc.previews) ∧
    ∃ made, Announced before t s.rl.transmit made ∧ t.rl = { s.rl with transmit := made }

/-- R163, R164: the same of a request, which is counted and whose reply comes last. `ahead` is the model's own field
(notes/assumptions/29.md). -/
abbrev PortsDecidedAndAnswered (before s t : State) (target : Port → Option Channel) (reply : LinkUnit) : Prop :=
  SameOutsidePorts s t ∧ KeysMigrated s t ∧
    (∃ order : List Port, order.Perm allPorts ∧ Decided before s t target order s.pc.previews) ∧
    ∃ made, Announced before t s.rl.transmit made ∧
      t.rl = { s.rl with
        unanswered := s.rl.unanswered + 1
        transmit := made ++ [reply]
        ahead := s.rl.transmit.length + 1 }

/-- R63, R94: what an event that moves ports otherwise does beyond `s`, a statement saying where they end: the units that
each port's move makes, and the migration. -/
abbrev PortsMoved (before s t : State) : Prop :=
  SameOutsidePorts s t ∧ KeysMigrated s t ∧
    ∃ made, Announced before t s.rl.transmit made ∧ t.rl = { s.rl with transmit := made }

/-! ## Events not tied to a request (R95, R167) -/

/-- R95: an event's units among the waiting units of a request, ending in the last of the event's, with `behind` still waiting
after it: both keep their order, and none of the event's stands before a waiting unit of its own port. -/
def Merged : List LinkUnit → List LinkUnit → List LinkUnit → List LinkUnit → Prop
  | waiting, units, [], behind => units = [] ∧ behind = waiting
  | waiting, units, u :: mixed, behind =>
    units ≠ [] ∧
      ((∃ rest, waiting = u :: rest ∧ Merged rest units mixed behind) ∨
        ∃ rest, units = u :: rest ∧ (∀ w ∈ waiting, w.portOf ≠ u.portOf) ∧ Merged waiting rest mixed behind)

/-- R95, R167: where the units of an event not tied to a request come to stand in the list. `joined` is the state with them
at its tail. They stand there, or between the units of the request taken last (notes/assumptions/29.md): `ahead` counts
the units that they must stand behind, and a later event's must stand behind them. -/
def FellIn (before joined t : State) : Prop :=
  ∃ units mixed behind : List LinkUnit,
    joined.rl.transmit = before.rl.transmit ++ units ∧
    Merged (before.rl.transmit.drop before.rl.ahead) units mixed behind ∧
    t = { joined with
      rl := { joined.rl with
        transmit := before.rl.transmit.take before.rl.ahead ++ (mixed ++ behind)
        ahead := before.rl.ahead + mixed.length }
      choices := t.choices }

/-- An event not tied to a request that decides ports: as `PortsDecided`, and its units then fall into the list. -/
abbrev EventDecided (before s t : State) (target : Port → Option Channel) : Prop :=
  ∃ joined, PortsDecided before s joined target ∧ FellIn before joined t

/-- An event not tied to a request that moves ports otherwise. -/
abbrev EventMoved (before s t : State) : Prop := ∃ joined, PortsMoved before s joined ∧ FellIn before joined t

/-- R88: each port's own home channel is its target; a port in OFF has none. -/
def State.homes (s : State) (p : Port) : Option Channel := (s.port p).home

/-- R40, R88: the targets of an event of one title: the home channels that carry it. -/
def State.homesWith (s : State) (title : Nat) (p : Port) : Option Channel :=
  if (s.port p).home.bind s.titleOn = some title then (s.port p).home else none

/-! ## Due events in their order (R10) -/

/-- The row of the table that is a stay-level event. -/
def DueEvent.row : DueEvent → Instr
  | .keyPhase g ph => .keyPhaseExpiry g ph
  | .unlock p => .unlockEnd p
  | .lockout => .lockoutEnd
  | .strict => .strictQuietEnd
  | .window title => .purchaseWindowEnd title
  | .alert => .houseAlertEnd

/-- R10: the events taken on the way from `s` to `t`: each is registered when it is taken, due at or before `T`, and none
that is registered then is due earlier. -/
def DueRun (T : Nat) (s : State) : List (Nat × DueEvent) → State → Prop
  | [], t => t = { s with choices := t.choices }
  | d :: ds, t => d ∈ s.dueEvents ∧ d.1 ≤ T ∧ (∀ d' ∈ s.dueEvents, d.1 ≤ d'.1) ∧
      ∃ choices, DueRun T (({ s with choices := choices }).takeDue d.1 d.2) ds t

/-! ## The accruals of a local second (R97, R137) -/

/-- R97, R137: the accruals of a local second, judged on the records of `s`: an outage second for each open purchase with a
starved or alerted port and no flowing port on its title, a preview second for each title being previewed, and PREVIEW_OVER
for each port in PREVIEW whose title has then used up its length. Nothing else moves. -/
def Accrued (s t : State) : Prop :=
  let onTitle (title : Nat) (p : Port) : Prop := ∃ c, (s.port p).home = some c ∧ s.titleOn c = some title
  let starved (p : Port) : Prop := (s.port p).state = .alert ∨
    ((s.port p).state = .playing ∧ (s.port p).delivery ≠ some .flowing)
  let flowing (p : Port) : Prop := (s.port p).state = .playing ∧ (s.port p).delivery = some .flowing
  let outage (title : Nat) : Prop := (∃ p, onTitle title p ∧ starved p) ∧ ¬ ∃ p, onTitle title p ∧ flowing p
  let previewed (title : Nat) : Prop := ∃ p, (s.port p).state = .preview ∧ onTitle title p
  PortsMoved s { s with pu := t.pu } t ∧ t.pu.silentCount = s.pu.silentCount ∧
    List.Forall₂ (fun e e' => (outage e.title → e' = { e with outage := min (e.outage + 1) e.window }) ∧
      (¬ outage e.title → e' = e)) s.pu.purchases t.pu.purchases ∧
    List.Forall₂ (fun r r' => (previewed r.title → r' = { r with seconds := r.seconds + 1, bought := false }) ∧
      (¬ previewed r.title → r' = r)) s.pc.previews t.pc.previews ∧
    ∀ p, ((s.port p).state ≠ .preview → t.port p = s.port p) ∧
      ∀ c e title k, (s.port p).state = .preview → (s.port p).home = some c → s.entry c = some e →
        e.tier = .film title k →
        let used := ((t.previewRecord title).map (·.seconds)).getD 0
        let length := ((s.price k).map (·.preview)).getD 0
        (length ≤ used → t.port p = .blanked .previewOver c 500) ∧ (used < length → t.port p = s.port p)

/-! ## Requests and lanes -/

/-- R163: the one reply to a request. -/
def replyTo (u : Unit96) (code : ReplyCode) (detail : Nat) : LinkUnit :=
  .reply { port := if namesPort u.body[0].toNat then u.header[1] else 0, kind := u.body[0], code := code,
           detail := detail, report := none }

/-- R164, R167: RL's state after a request that made some units and then its reply. `ahead` is the model's own field
(notes/assumptions/29.md). -/
def State.answeredRl (s : State) (l : List LinkUnit) (reply : LinkUnit) : RoomLink :=
  { s.rl with
    unanswered := s.rl.unanswered + 1
    transmit := s.rl.transmit ++ l ++ [reply]
    ahead := s.rl.transmit.length + 1 }

/-- R75: the recurrence in whole numbers. -/
def streamValue (x0 : Nat) : Nat → Nat
  | 0 => x0
  | i + 1 => (streamValue x0 i * 3182915629 + 40503) % 4294967296

end Sys2Proof.Machine
end

