-- ==== Sys2Proof/WellFormed.lean ====
section
/-! DEFINITION. Which command terms stand for a command: a unit must spell the row whose constructor holds it. -/

namespace Sys2Proof

/-- The unit a command holds spells the command's row (R20, R28, R163, R172 to R175); a command with no unit always
stands for itself. -/
def Instr.wellFormed : Instr → Bool
  | .powerOnReset _ => true
  | .mediaUnit u => u.spellsMedia
  | .filler u => u.feedKind == .filler
  | .feedReturnUnit u => u.feedKind == .ret
  | .formatFault u => u.spellsFormatFault
  | .badKind u => u.spellsBadKind
  | .clockMark u => u.spellsMgmt 1
  | .keyLoad u => u.spellsMgmt 2
  | .keyPurge u => u.spellsPurge false
  | .keyPurgeAllGroups u => u.spellsPurge true
  | .tableOpen u => u.spellsMgmt 4
  | .tableData u => u.spellsMgmt 5
  | .stayOpen u => u.spellsMgmt 6
  | .stayClose u => u.spellsMgmt 7
  | .roomSettings u => u.spellsMgmt 8
  | .setCeiling u => u.spellsSetCeiling
  | .endUnlocks u => u.spellsOrder 5
  | .clearPin u => u.spellsOrder 2
  | .endLockout u => u.spellsOrder 6
  | .freeze u => u.spellsOrder 3
  | .unfreeze u => u.spellsOrder 4
  | .houseAlert u => u.spellsAlert
  | .houseAlertStop u => u.spellsAlertStop
  | .pollBilling u => u.spellsPollBilling
  | .pollCapture u => u.spellsPollCapture
  | .returnTransmitEnd => true
  | .release u => u.spellsMgmt 12
  | .roomReset u => u.spellsMgmt 13
  | .localSecond => true
  | .silent => true
  | .keyPhaseExpiry _ _ => true
  | .unlockEnd _ => true
  | .lockoutEnd => true
  | .strictQuietEnd => true
  | .purchaseWindowEnd _ => true
  | .houseAlertEnd => true
  | .signalTimerExpiry _ => true
  | .blankCadenceExpiry _ => true
  | .linkUnitSent => true
  | .nonRequestUnit u => u.spellsNonRequest
  | .unknownRequestKind u => u.spellsUnknownRequest
  | .tune u => u.spellsRequest 1
  | .off u => u.spellsRequest 2
  | .buy u => u.spellsRequest 3
  | .cancel u => u.spellsRequest 4
  | .pinUnlock u => u.spellsRequest 5
  | .pinSet u => u.spellsRequest 6
  | .ceiling u => u.spellsRequest 7
  | .relock u => u.spellsRequest 8
  | .list u => u.spellsRequest 9
  | .queryPort u => u.spellsRequest 10
  | .queryRoom u => u.spellsRequest 11
  | .linkReset u => u.spellsRequest 12

end Sys2Proof
end

