-- ==== Sys2Proof/Certificates/Slice0/Obligations.lean ====
section
/-! DEFINITION. The statements for the provers. A clause that rests on a choice of the model's own names its entry of the
assumption log. -/

open Sys2Proof Sys2Proof.Machine

/-! ## The step and the queue of commands -/

/-- A step takes the command at the front of the queue and runs it on the state with the queue's rest. -/
def Obligations.StepRunsTheFrontCommand : Prop :=
  ∀ (c : Instr) (rest : List Instr) (s : State), s.pending = c :: rest → step s = exec c { s with pending := rest }

/-- On an empty queue one local millisecond passes at every port (the model's choice of when, notes/assumptions/1.md): a
running signal timer counts down and at its end sets NO_SIGNAL, with a notice where that is a change (R90, R91); a blank
cadence counts down and at its end makes a blank unit, where fewer than 64 units wait, and restarts at 500 ms (R93,
R167). Nothing else moves. Where the units may stand in the list is the model's reading (notes/assumptions/29.md). -/
def Obligations.IdleStepIsOneMillisecond : Prop :=
  ∀ s : State, s.pending = [] → ∃ joined t, step s = .next t ∧ FellIn s joined t ∧ SameOutsidePorts s t ∧ t.ks = s.ks ∧
    t.pc.previews = s.pc.previews ∧
    (∀ p : Port, t.port p = match s.port p with
      | .off => .off
      | .active v home stream d 0 => .active v home stream d 0
      | .active v home stream _ 1 => .active v home stream .noSignal 0
      | .active v home stream d (n + 2) => .active v home stream d (n + 1)
      | .blanked r home n => .blanked r home (if n ≤ 1 then 500 else n - 1)) ∧
    let units (list : List LinkUnit) (p : Port) : List LinkUnit := match s.port p with
      | .active _ _ _ d 1 => if d = .noSignal then list else list ++ [.notice p (t.notice p)]
      | .blanked r home n => if n ≤ 1 ∧ list.length < 64 then list ++ [.blank p r home] else list
      | _ => list
    ∃ order : List Port, order.Perm allPorts ∧
      joined.rl = { s.rl with transmit := order.foldl units s.rl.transmit }

/-- Every command whose unit spells its row goes on to a next state, and a term whose unit spells another row stops by
name (the model's choice, notes/assumptions/9.md). -/
def Obligations.EveryCommandGoesOn : Prop :=
  ∀ (c : Instr) (s : State), (c.wellFormed = true → ∃ t, exec c s = .next t) ∧
    (c.wellFormed = false → exec c s = .refused .unitOfAnotherRow)

/-- No command changes the queue, which is the model's own, power-on reset included (the model's choice,
notes/assumptions/21.md); only power-on reset changes the room number; the stay clock never decreases except at power-on
reset (R8), and only a local second or a CLOCK_MARK changes it. -/
def Obligations.ClockNeverDecreases : Prop :=
  ∀ (c : Instr) (s t : State), exec c s = .next t → t.pending = s.pending ∧
    ((∀ strap, c ≠ .powerOnReset strap) → t.room = s.room ∧
      (s.su.clock ≤ 4294967295 → s.su.clock ≤ t.su.clock ∧ t.su.clock ≤ 4294967295) ∧
      (c ≠ .localSecond → (∀ u, c ≠ .clockMark u) → t.su.clock = s.su.clock))

/-- POWER_ON_RESET, from every state: every block takes its power-on state and the room number is what the strap pins
say. The model's own queue and choices stay (notes/assumptions/21.md). -/
def Obligations.PowerOnResetLeaves : Prop :=
  ∀ (strap : BitVec 14) (s : State), ∃ t, exec (.powerOnReset strap) s = .next t ∧
    t.room = strap ∧ t.pending = s.pending ∧ t.choices = s.choices ∧
    (t.su.occupancy = .vacant ∧ t.su.stayNumber = 0 ∧ t.su.spend = 0 ∧ t.su.cap = 0 ∧ t.su.packages = 0 ∧
      t.su.discretion = false ∧ t.su.group = 0 ∧ t.su.vacantFirst = 0 ∧ t.su.vacantLast = 0 ∧ t.su.restarted = true ∧
      t.su.lastClosed = none ∧ t.su.clock = 0 ∧ t.su.marksIgnored = 0 ∧ t.su.silenceCount = 0 ∧ t.su.silent = true ∧
      t.su.alert = none ∧ t.dueEvents = []) ∧
    (t.fi = { sending := none, waiting := [], dropped := 0, nextCount := 0 } ∧ t.sf.formatFaults = 0 ∧
      (∀ i : Fin 8, t.sf.remap[i] = none) ∧ t.md.burst = none ∧ t.md.capture = none ∧ t.md.lastRefusal = none ∧
      t.md.checkFailures = 0 ∧ t.md.refusals = 0 ∧ t.md.overruns = 0) ∧
    ((∀ c : Channel, t.entry c = none) ∧ (∀ k : PriceCode, t.price k = none) ∧
      (∀ i : Fin 32, t.ks.sets[i] = { way0 := none, way1 := none, recent := .way0 }) ∧ t.ks.slot = none ∧
      t.ks.replaced = 0 ∧ t.ks.displaced = 0 ∧ (∀ p : Port, t.port p = .off) ∧ t.pc.previews = []) ∧
    (t.lu.ceiling = 5 ∧ t.lu.pin = none ∧ t.lu.failures = 0 ∧ t.lu.lockout = none ∧ t.lu.strict = none ∧
      t.lu.frozen = false ∧ ∀ p : Port, t.lu.unlocks[p] = none) ∧
    t.pu = { purchases := [], silentCount := 0 } ∧
    t.bq = { queue := [], nextSeq := 0, high := 40, low := 32, hold := false } ∧
    t.rl.transmit = [] ∧ t.rl.unanswered = 0

/-! ## The feed -/

/-- R20: a unit that SF discards changes nothing, or raises format faults alone; so does a unit from the room sets that is
no request (R163). The header's kind is byte 0 and its phase bits 7 to 6 of byte 3 (R172). -/
def Obligations.DiscardedUnitsChangeNothing : Prop :=
  ∀ (u : Unit96) (s : State),
    (u.header[0].toNat = 3 → exec (.filler u) s = .next s) ∧
    (u.header[0].toNat = 4 → exec (.feedReturnUnit u) s = .next s) ∧
    (u.header[0].toNat ≠ 32 → exec (.nonRequestUnit u) s = .next s) ∧
    ((u.header[0].toNat = 0 ∨ 5 ≤ u.header[0].toNat ∨
        (u.header[0].toNat ≤ 2 ∧ u.header[3].toNat / 64 = 3)) →
      exec (.formatFault u) s =
        .next { s with sf := { s.sf with formatFaults := min (s.sf.formatFaults + 1) 65535 } }) ∧
    (u.header[0].toNat = 1 → u.header[3].toNat / 64 ≠ 3 →
      (u.stream = 4095 ∨ ∀ p : Port, ∀ v home d timer, s.port p ≠ .active v home (some u.stream) d timer) →
      exec (.mediaUnit u) s = .next s)

/-- R21, R65, R72, R77, R78: a MEDIA unit reaches every active port whose resolved stream is its stream, and no other.
There it clears, in phase CLEAR or where the key store holds the phase of the port's key group, or it misses. A cleared
copy makes the port FLOWING with its timer at 3,000 ms, and its programme unit joins a list that has room, after the
port's notice where a field differs; a missed one makes it NO_KEY, leaves the timer and makes no programme unit. A
lookup that finds its group in a way marks that way, in the order of the copies. Every entry, the arrival slot and the
counters of KS stay. That no other event comes between the copies, and where the units may stand in the list, are the
model's readings (notes/assumptions/29.md, 30.md). -/
def Obligations.MediaUnitPerPort : Prop :=
  ∀ (u : Unit96) (s : State), u.header[0].toNat = 1 → u.header[3].toNat / 64 ≠ 3 → u.stream ≠ 4095 →
    let meant (p : Port) : Bool := match s.port p with
      | .active _ _ (some stream) _ _ => stream == u.stream
      | _ => false
    let cleared (p : Port) : Option (Vector Byte 88) := match u.phase with
      | .clear => some u.body
      | .scrambled ph => ((s.serviceGroup p).bind fun g => s.ks.lookupWord g ph).map fun w => clearBody w u
      | .invalid => none
    let foundIn (p : Port) (i : Fin 32) : Option Way := match u.phase, s.serviceGroup p with
      | .scrambled _, some g =>
        if ¬ meant p ∨ Fin.ofNat 32 g ≠ i then none
        else if s.ks.sets[i].way0.map (·.group) = some g then some .way0
        else if s.ks.sets[i].way1.map (·.group) = some g then some .way1 else none
      | _, _ => none
    ∃ (joined t : State) (order : List Port), exec (.mediaUnit u) s = .next t ∧ FellIn s joined t ∧ SameOutsidePorts s t ∧
      t.pc.previews = s.pc.previews ∧ order.Perm allPorts ∧
      (∀ p : Port, t.port p = match s.port p with
        | .active v home stream d timer =>
          if meant p then (if (cleared p).isSome then .active v home stream .flowing 3000
            else .active v home stream .noKey timer)
          else .active v home stream d timer
        | r => r) ∧
      t.ks = { s.ks with sets := t.ks.sets } ∧
      (∀ i : Fin 32, t.ks.sets[i] = { s.ks.sets[i] with
        recent := order.foldl (fun w p => (foundIn p i).getD w) s.ks.sets[i].recent }) ∧
      let units (list : List LinkUnit) (p : Port) : List LinkUnit :=
        let noticed := if t.notice p = s.notice p then list else list ++ [.notice p (t.notice p)]
        match cleared p with
        | some body => if meant p ∧ noticed.length < 64 then noticed ++ [.programme p u.stream u.count body] else noticed
        | none => noticed
      joined.rl = { s.rl with transmit := order.foldl units s.rl.transmit }

/-- R73 to R76: the clear byte i is the received byte i, exclusive-or the top eight bits of x(i + 1), exclusive-or byte
(i mod 4) of K_mask, with x0 = (K_seed + 4,096 × n + s) mod 2^32. -/
def Obligations.KeystreamFormula : Prop :=
  ∀ (word : BitVec 64) (u : Unit96) (i : Fin 88),
    let seed := word.toNat / 4294967296
    let mask := word.toNat % 4294967296
    let count := u.header[3].toNat % 16
    let stream := (u.header[1].toNat * 256 + u.header[2].toNat) % 4096
    let x0 := (seed + 4096 * count + stream) % 4294967296
    ((clearBody word u)[i]).toNat =
      (u.body[i]).toNat ^^^ (streamValue x0 (i.val + 1) / 16777216 ^^^ (mask / 256 ^ (i.val % 4)) % 256)

/-! ## The Management Decoder -/

/-- R26: a management unit of any kind whose check word fails raises check failures, fills an empty capture record with
its header, its first 16 body bytes and the clock, and does nothing else. -/
def Obligations.CheckFailureIsOnlyCounted : Prop :=
  ∀ (u : Unit96) (s : State) (c : Instr), c ∈ managementRows u → c.wellFormed = true → u.checkOk = false →
    exec c s = .next { s with md := { s.md with
      checkFailures := min (s.md.checkFailures + 1) 65535
      capture := match s.md.capture with
        | some r => some r
        | none => some { header := u.header, body := Vector.ofFn fun i : Fin 16 => u.body[i.val], clock := s.su.clock } } }

/-- R27: a management unit that passes the check is accepted for destination 0, for the strapped room number, or for the
room's present group when the room number is not 0; any other is ignored and changes nothing. -/
def Obligations.DestinationDecidesAcceptance : Prop :=
  ∀ (u : Unit96) (s : State) (c : Instr), c ∈ managementRows u → c.wellFormed = true → u.checkOk = true →
    let d := u.body[0].toNat * 256 + u.body[1].toNat
    let meant := d = 0 ∨ (1 ≤ d ∧ d ≤ 16383 ∧ d = s.room.toNat) ∨
      (16384 ≤ d ∧ d ≤ 16639 ∧ s.room.toNat ≠ 0 ∧ d - 16384 = s.su.group.val)
    (meant ↔ s.Takes u) ∧ (¬ meant → exec c s = .next s)

/-- R28 to R30, R35, R173: what MD refuses of the units it accepts. The refusal count rises, the last refusal record is
written, the burst closes where the kind closes bursts, and nothing else changes. That a field out of range is found before
the room's address is the model's reading (notes/assumptions/12.md), and that a bad order and a bad variant belong to
SET_CEILING and POLL_BILLING is its choice (notes/assumptions/13.md). -/
def Obligations.ManagementRefusals : Prop :=
  ∀ (u : Unit96) (s : State), u.header[0].toNat = 2 → u.header[3].toNat / 64 ≠ 3 → s.Takes u →
    let kind := u.body[2].toNat
    let group := u.body[3].toNat * 256 + u.body[4].toNat
    let forRoom := u.body[0].toNat * 256 + u.body[1].toNat ≠ 0 ∧
      u.body[0].toNat * 256 + u.body[1].toNat = s.room.toNat
    let refused (r : RefusalReason) (closes : Bool) : Host.Outcome State Fault Refusal :=
      .next { s with md := s.refusedMd u r closes }
    (kind = 0 ∨ 14 ≤ kind → exec (.badKind u) s = refused .badKind true) ∧
    (kind = 2 → 1023 ≤ group ∨ (u.body[5].toNat ≠ 1 ∧ u.body[5].toNat ≠ 2) →
      exec (.keyLoad u) s = refused .badField false) ∧
    (kind = 3 → u.body[5].toNat % 2 = 0 → 1023 ≤ group → exec (.keyPurge u) s = refused .badField false) ∧
    (kind = 4 → u.body[3].toNat = 0 ∨ 4 ≤ u.body[3].toNat → exec (.tableOpen u) s = refused .badField true) ∧
    (kind = 9 → u.body[3].toNat = 0 ∨ 7 ≤ u.body[3].toNat → exec (.setCeiling u) s = refused .badField true) ∧
    (kind = 11 → u.body[3].toNat = 0 ∨ 3 ≤ u.body[3].toNat → exec (.pollBilling u) s = refused .badField false) ∧
    (kind = 11 → u.body[3].toNat = 1 → ¬ forRoom → exec (.pollBilling u) s = refused .roomOnly false) ∧
    (kind = 11 → u.body[3].toNat = 2 → ¬ forRoom → exec (.pollCapture u) s = refused .roomOnly false) ∧
    (kind = 12 → ¬ forRoom → exec (.release u) s = refused .roomOnly true)

/-- R35: a unit that MD accepts and whose kind closes bursts leaves no burst open, whether its owner takes it or refuses
it; one that MD does not accept closes nothing; and no command but these, TABLE_OPEN, TABLE_DATA and power-on reset changes
the burst state. -/
def Obligations.BurstClosesOnlyAtClosingKinds : Prop :=
  ∀ (c : Instr) (s t : State), exec c s = .next t →
    (∀ u, c ∈ closingRows u → s.Takes u → t.md.burst = none) ∧
    (∀ u, c ∈ closingRows u ∨ c = .tableOpen u ∨ c = .tableData u → ¬ s.Takes u → t.md.burst = s.md.burst) ∧
    ((∀ u, c ∉ closingRows u ∧ c ≠ .tableOpen u ∧ c ≠ .tableData u) → (∀ strap, c ≠ .powerOnReset strap) →
      t.md.burst = s.md.burst)

/-! ## Tables -/

/-- R33: an accepted TABLE_OPEN opens a burst over a window inside its table, pointer at the first index, or is refused
BOUNDS; in both cases the burst that was open has closed, and no entry is written. -/
def Obligations.TableOpenTakesItsWindow : Prop :=
  ∀ (u : Unit96) (s : State) (table : Table), u.spellsMgmt 4 = true → s.Takes u →
    u.body[3].toNat = (match table with | .service => 1 | .price => 2 | .remap => 3) →
    let first := u.body[4].toNat
    let last := u.body[5].toNat
    let highest := match table with | .service => 255 | .price => 31 | .remap => 7
    let opened : Burst := { table := table, first := first, last := last, pointer := first, tag := u.body[6] }
    (first ≤ last → last ≤ highest →
      exec (.tableOpen u) s = .next { s with md := { s.md with burst := some opened } }) ∧
    (last < first ∨ highest < last → exec (.tableOpen u) s = .next { s with md := s.refusedMd u .bounds true })

/-- R34, steps 1 and 2: a TABLE_DATA with no burst open or of another tag is refused NO_BURST, and one whose count is
outside its table's range BAD_FIELD; the burst stays as it was and nothing is written. -/
def Obligations.TableDataRefusals : Prop :=
  ∀ (u : Unit96) (s : State), u.spellsMgmt 5 = true → s.Takes u →
    (s.md.burst = none → exec (.tableData u) s = .next { s with md := s.refusedMd u .noBurst false }) ∧
    (∀ b, s.md.burst = some b → b.tag ≠ u.body[3] →
      exec (.tableData u) s = .next { s with md := s.refusedMd u .noBurst false }) ∧
    (∀ b, s.md.burst = some b → b.tag = u.body[3] →
      (u.body[4].toNat = 0 ∨ (match b.table with | .service => 8 | .price => 6 | .remap => 8) < u.body[4].toNat) →
      exec (.tableData u) s = .next { s with md := s.refusedMd u .badField false })

/-- R34, step 3, with R42 and R43: the entries of a TABLE_DATA on a PRICE burst are written from the pointer on, up to the
last index; the burst advances or closes complete; each entry past the window raises burst overruns; nothing else moves. -/
def Obligations.PriceBurstWrites : Prop :=
  ∀ (u : Unit96) (s : State) (b : Burst), u.spellsMgmt 5 = true → s.Takes u → s.md.burst = some b → b.table = .price →
    b.tag = u.body[3] → 1 ≤ u.body[4].toNat → u.body[4].toNat ≤ 6 → b.pointer ≤ b.last → b.last ≤ 31 →
    let n := u.body[4].toNat
    let written := min n (b.last + 1 - b.pointer)
    ∃ t, exec (.tableData u) s = .next t ∧
      t = { s with tm := { s.tm with prices := t.tm.prices }, md := t.md } ∧
      (∀ k : PriceCode, t.price k =
        if b.pointer ≤ k.val ∧ k.val < b.pointer + written then priceEntry u (5 + 13 * (k.val - b.pointer))
        else s.price k) ∧
      t.md = { s.md with
        burst := if b.pointer + written ≤ b.last then some { b with pointer := b.pointer + written } else none
        overruns := if written = n then s.md.overruns else min (s.md.overruns + (n - written)) 65535 }

/-- R22, R24, R34: the same of a REMAP burst, and after it every active port follows the new table: its resolved stream
is found anew and its timer restarts, with its state, home channel and delivery kept and no notice sent. -/
def Obligations.RemapBurstReresolves : Prop :=
  ∀ (u : Unit96) (s : State) (b : Burst), u.spellsMgmt 5 = true → s.Takes u → s.md.burst = some b → b.table = .remap →
    b.tag = u.body[3] → 1 ≤ u.body[4].toNat → u.body[4].toNat ≤ 8 → b.pointer ≤ b.last → b.last ≤ 7 →
    let n := u.body[4].toNat
    let written := min n (b.last + 1 - b.pointer)
    ∃ t, exec (.tableData u) s = .next t ∧
      t = { s with sf := { s.sf with remap := t.sf.remap }, md := t.md, pc := { s.pc with ports := t.pc.ports } } ∧
      (∀ i : Fin 8, t.sf.remap[i] =
        if b.pointer ≤ i.val ∧ i.val < b.pointer + written then remapEntry u (5 + 7 * (i.val - b.pointer))
        else s.sf.remap[i]) ∧
      t.md = { s.md with
        burst := if b.pointer + written ≤ b.last then some { b with pointer := b.pointer + written } else none
        overruns := if written = n then s.md.overruns else min (s.md.overruns + (n - written)) 65535 } ∧
      ∀ p : Port, t.port p = match s.port p with
        | .active v home _ d _ => .active v home (t.resolve v home) d 3000
        | r => r

/-- R34, R35, R37 to R39: a TABLE_DATA on a SERVICE burst, entry by entry. An entry that finds the burst open is stored
at the pointer, which advances or, at the last index, closes the burst; every port on that channel that is not in ALERT
is decided anew, whatever the room, the alert and the tier; and while an alert is active on that channel the ports in
ALERT take the new service, with the timer at 3,000 ms and nothing sent. An entry that finds the burst closed is dropped
and raises burst overruns. The migration at the event's end, what a full Preview List gives up and where its units may
stand are the model's readings (notes/assumptions/10.md, 14.md, 15.md, 29.md). -/
def Obligations.ServiceWriteDecidesItsPorts : Prop :=
  ∀ (u : Unit96) (s : State) (b : Burst), u.spellsMgmt 5 = true → s.Takes u → s.md.burst = some b →
    b.table = .service → b.tag = u.body[3] → 1 ≤ u.body[4].toNat → u.body[4].toNat ≤ 8 →
    let n := u.body[4].toNat
    ∃ (state : Nat → State) (t : State), state 0 = s ∧ exec (.tableData u) s = .next t ∧ FellIn s (state n) t ∧ ∀ i, i < n →
      let old := state i
      (old.md.burst = none → state (i + 1) =
        { old with md := { old.md with overruns := min (old.md.overruns + 1) 65535 } }) ∧
      ∀ b', old.md.burst = some b' →
        let channel : Channel := Fin.ofNat 256 b'.pointer
        let entry := serviceEntry u (5 + 10 * i)
        let stream := entry.map fun e => resolveIn s.sf.remap.toList e.stream
        let alerted (r : PortRecord) : PortRecord := match r with
          | .active .alert home _ d _ =>
            if old.su.alert.map (·.channel) = some channel then .active .alert home stream d 3000 else r
          | _ => r
        b' = { b with pointer := b.pointer + i } ∧
        PortsDecided old { old with
          tm := { old.tm with services := old.tm.services.set channel entry }
          md := { old.md with burst := if b'.pointer < b'.last then some { b' with pointer := b'.pointer + 1 } else none }
          pc := { old.pc with ports := old.pc.ports.map alerted } } (state (i + 1)) fun p =>
            if (old.port p).home = some channel ∧ (old.port p).state ≠ .alert then some channel else none

/-- R37, R172: a Service Map entry as stored: ABSENT when written absent or with stream 0 or 4095; else with its stream,
its key group, its rating lowered to 7, and the fields of its tier, a FILM of title 0 being FREE. -/
def Obligations.ServiceEntryClamps : Prop :=
  ∀ (u : Unit96) (n : Nat),
    let stream := (u.byte (n + 1)).toNat % 16 * 256 + (u.byte (n + 2)).toNat
    let group := (u.byte (n + 3)).toNat % 4 * 256 + (u.byte (n + 4)).toNat
    let title := (u.byte (n + 6)).toNat * 256 + (u.byte (n + 7)).toNat
    let tier := (u.byte n).toNat / 2 % 4
    let absent := (u.byte n).toNat % 2 = 0 ∨ stream = 0 ∨ stream = 4095
    (absent → serviceEntry u n = none) ∧
    (¬ absent → ∃ e, serviceEntry u n = some e ∧ e.stream = stream ∧ 1 ≤ e.stream ∧ e.stream ≤ 4094 ∧
      e.keyGroup = (if group = 1023 then none else some group) ∧ e.rating = min (u.byte (n + 5)).toNat 7 ∧
      (tier = 0 → e.tier = .house) ∧ (tier = 1 → e.tier = .free) ∧
      (tier = 2 → ∃ k : Fin 16, k.val = (u.byte n).toNat / 16 ∧ e.tier = .package k) ∧
      (tier = 3 → title = 0 → e.tier = .free) ∧
      (tier = 3 → title ≠ 0 →
        ∃ k : PriceCode, k.val = (u.byte (n + 8)).toNat % 32 ∧ e.tier = .film title k))

/-- R42, R172 and R22: a Price Table entry and a Stream Remap Table entry as stored. A remap count is the written one,
0 read as 1 and more than 256 as 256, lowered only as far as both ranges need to end at or below 4094. -/
def Obligations.PriceAndRemapEntryClamps : Prop :=
  ∀ (u : Unit96) (n : Nat),
    let b (i : Nat) := (u.byte (n + i)).toNat
    (b 8 < 128 → priceEntry u n = none) ∧
    (128 ≤ b 8 → ∃ e, priceEntry u n = some e ∧ e.standard = b 0 * 256 + b 1 ∧ e.offPeak = b 2 * 256 + b 3 ∧
      e.bandStart = min (b 4 * 16 + b 5 / 16) 1439 ∧ e.bandEnd = min (b 5 % 16 * 256 + b 6) 1439 ∧
      e.tax = min (b 7) 250 ∧ e.preview = min ((b 8 - 128) * 256 + b 9) 600 ∧
      e.window = max 600 (min ((b 10 * 256 + b 11) * 256 + b 12) 86400)) ∧
    (let first := b 1 % 16 * 256 + b 2
     let target := b 5 % 16 * 256 + b 6
     let count := b 3 * 256 + b 4
     let absent := b 0 % 2 = 0 ∨ first = 0 ∨ first = 4095 ∨ target = 0 ∨ target = 4095
     (absent → remapEntry u n = none) ∧
     (¬ absent → ∃ e, remapEntry u n = some e ∧ e.first = first ∧ e.target = target ∧ 1 ≤ e.count ∧
       first + e.count - 1 ≤ 4094 ∧ target + e.count - 1 ≤ 4094 ∧
       (let wanted := if count = 0 then 1 else if 256 < count then 256 else count
        e.count ≤ wanted ∧ (e.count < wanted → first + e.count - 1 = 4094 ∨ target + e.count - 1 = 4094))))

/-- R23: the first present entry whose range holds the stream maps it once; with none the stream stands. -/
def Obligations.ResolvedStreamIsTheFirstMatch : Prop :=
  ∀ (table : List (Option RemapEntry)) (stream : Nat),
    let holds (e : RemapEntry) := e.first ≤ stream ∧ stream ≤ e.first + e.count - 1
    ((∀ e, some e ∈ table → ¬ holds e) → resolveIn table stream = stream) ∧
    (∀ before e after, table = before ++ some e :: after → holds e → (∀ e', some e' ∈ before → ¬ holds e') →
      resolveIn table stream = e.target + (stream - e.first))

/-! ## The key store -/

/-- R58 to R62: what a KEY_LOAD does, case by case. `here` is the group's set. -/
def Obligations.KeyLoadOutcomes : Prop :=
  ∀ (u : Unit96) (s : State) (ph : KeyPhase), u.spellsMgmt 2 = true → s.Takes u →
    u.body[5].toNat = (match ph with | .a => 1 | .b => 2) → u.word16 3 ≤ 1022 →
    let g := u.word16 3
    let i : Fin 32 := Fin.ofNat 32 g
    let here := s.ks.sets[i]
    let key : PhaseKey := { word := BitVec.ofNat 64 (u.word32 6 * 4294967296 + u.word32 10), expiry := u.word32 14 }
    let fresh : KeyEntry := match ph with
      | .a => { group := g, phaseA := some key, phaseB := none }
      | .b => { group := g, phaseA := none, phaseB := some key }
    let renewed (e : KeyEntry) : KeyEntry := match ph with
      | .a => { e with phaseA := some key }
      | .b => { e with phaseB := some key }
    let answers (ks : KeyStore) := exec (.keyLoad u) s = .next { s with ks := ks }
    let withSet (st : KeySet) : KeyStore := { s.ks with sets := s.ks.sets.set i st }
    let placed (w : Way) (st : KeySet) : KeySet := match w with
      | .way0 => { st with way0 := some fresh, recent := .way0 }
      | .way1 => { st with way1 := some fresh, recent := .way1 }
    let absent (place : Option KeyEntry) := ∀ e, place = some e → e.group ≠ g
    let inUse (e : KeyEntry) := ∃ p : Port, s.serviceGroup p = some e.group
    (0 < key.expiry ∧ key.expiry ≤ s.su.clock →
      exec (.keyLoad u) s = .next { s with md := s.refusedMd u .expired false }) ∧
    (key.expiry = 0 ∨ s.su.clock < key.expiry →
      (∀ e, here.way0 = some e → e.group = g → answers (withSet { here with way0 := some (renewed e) })) ∧
      (∀ e, absent here.way0 → here.way1 = some e → e.group = g →
        answers (withSet { here with way1 := some (renewed e) })) ∧
      (∀ e, absent here.way0 → absent here.way1 → s.ks.slot = some e → e.group = g →
        answers { s.ks with slot := some (renewed e) }) ∧
      (absent here.way0 → absent here.way1 → absent s.ks.slot →
        (here.way0 = none → answers (withSet (placed .way0 here))) ∧
        (∀ e, here.way0 = some e → here.way1 = none → answers (withSet (placed .way1 here))) ∧
        (∀ e0 e1, here.way0 = some e0 → here.way1 = some e1 →
          (¬ inUse e0 → inUse e1 ∨ here.recent = .way1 →
            answers { withSet (placed .way0 here) with replaced := min (s.ks.replaced + 1) 65535 }) ∧
          (¬ inUse e1 → inUse e0 ∨ here.recent = .way0 →
            answers { withSet (placed .way1 here) with replaced := min (s.ks.replaced + 1) 65535 }) ∧
          (inUse e0 → inUse e1 → s.ks.slot = none → answers { s.ks with slot := some fresh }) ∧
          (inUse e0 → inUse e1 → s.ks.slot ≠ none →
            answers { s.ks with slot := some fresh, displaced := min (s.ks.displaced + 1) 65535 }))))

/-- R57, R63, R64, R67, R68: a purge of a group takes its entry from the place that holds it, a phase's expiry takes that
phase and frees an entry whose other phase is not valid, and then the arrival slot's entry moves where a way is free or no
longer in use; every other entry with its words and expiry times, every recency mark that no migration sets and both
counters stay. So the purged group misses, the expired phase misses, and every other key is found as before. A purge of all
groups frees every way and the slot and sets every mark to way 0. Nothing outside KS changes. KEY_PHASE_EXPIRY is taken
whenever the expiry is registered, which is the model's choice (notes/assumptions/2.md), and the migration at the event's
end is its reading (notes/assumptions/10.md). -/
def Obligations.PurgesAndExpiriesMiss : Prop :=
  ∀ (s : State), s.ks.StoreLaw → s.SlotLaw →
    (∀ u : Unit96, u.spellsPurge false = true → s.Takes u → u.word16 3 ≤ 1022 →
      ∃ t, exec (.keyPurge u) s = .next t ∧ t = { s with ks := t.ks } ∧
        KeysMigrated { s with ks := s.ks.withGroup (u.word16 3) fun _ => none } t ∧
        ∀ g ph, t.ks.lookupWord g ph = if g = u.word16 3 then none else s.ks.lookupWord g ph) ∧
    (∀ u : Unit96, u.spellsPurge true = true → s.Takes u →
      ∃ t, exec (.keyPurgeAllGroups u) s = .next t ∧ t = { s with ks := { s.ks with
          sets := Vector.replicate 32 { way0 := none, way1 := none, recent := .way0 }, slot := none } } ∧
        ∀ g ph, t.ks.lookupWord g ph = none) ∧
    (∀ g ph due, s.ks.expiryOf g ph = some due →
      ∃ t, exec (.keyPhaseExpiry g ph) s = .next t ∧ t = { s with ks := t.ks } ∧
        KeysMigrated { s with ks := s.ks.withGroup g fun e => e.expired ph } t ∧
        ∀ g' ph', t.ks.lookupWord g' ph' = if g' = g ∧ ph' = ph then none else s.ks.lookupWord g' ph')

/-! ## Stay events and room settings -/

/-- R2, R3, R88, R124: STAY_OPEN in a room that is not OCCUPIED raises the stay number past 0, sets SU and LU for the
new guest, clears the silent purchase count, empties the Preview List and re-evaluates every port; in an OCCUPIED room
it is refused. A record in the list after it has 0 seconds, clear, for a port that the re-evaluation put in PREVIEW. The
migration at the event's end, what a full Preview List gives up and where its units may stand are the model's readings
(notes/assumptions/10.md, 14.md, 15.md, 29.md). -/
def Obligations.StayOpenSetsTheNewGuest : Prop :=
  ∀ (u : Unit96) (s : State), u.spellsMgmt 6 = true → s.Takes u →
    (s.su.occupancy = .occupied → exec (.stayOpen u) s = .next { s with md := s.refusedMd u .occupied true }) ∧
    (s.su.occupancy ≠ .occupied → ∃ t, exec (.stayOpen u) s = .next t ∧
      EventDecided s { s with
        md := s.closedMd
        su := { s.su with
          stayNumber := if s.su.stayNumber = 65535 then 1 else s.su.stayNumber + 1
          spend := 0
          cap := min (u.word32 5) 10000000
          packages := BitVec.ofNat 16 (u.word16 9)
          discretion := u.body[4].toNat / 2 % 2 == 1
          occupancy := .occupied }
        lu := { ceiling := min u.body[3].toNat 7, pin := none, failures := 0, lockout := none, strict := none,
                frozen := u.body[4].toNat % 2 == 1, unlocks := Vector.replicate 4 none }
        pc := { s.pc with previews := [] }
        pu := { s.pu with silentCount := 0 } } t s.homes ∧
      ∀ r ∈ t.pc.previews, r.seconds = 0 ∧ r.bought = false ∧
        ∃ p, (t.port p).state = .preview ∧ (t.port p).home.bind t.titleOn = some r.title)

/-- R4, R131, R140, R147, R150 to R152, R155: STAY_CLOSE in an OCCUPIED room closes every open purchase, the earliest
start first and equal starts by title; each credit above 0 is appended, as a CREDIT record in the form that the rating
and the discretion give, not sent, under the next sequence number and with the hold tested, and lowers spend; the lock
is cleared with its ceiling kept; the net is written; the room goes to SETTLING or VACANT; the Preview List is emptied
and every port re-evaluated (R88). Elsewhere only the burst closes. The migration at the event's end, what a full
Preview List gives up and where its units may stand are the model's readings (notes/assumptions/10.md, 14.md, 15.md,
29.md). -/
def Obligations.StayCloseSettlesTheStay : Prop :=
  ∀ (u : Unit96) (s : State), u.spellsMgmt 7 = true → s.Takes u →
    (s.su.occupancy ≠ .occupied → exec (.stayClose u) s = .next { s with md := s.closedMd }) ∧
    (s.su.occupancy = .occupied → s.PurchaseLaw → ∃ t order,
      let credit (e : Purchase) : Nat := creditOf e.charge e.outage e.window
      let credited := order.filter fun e => 0 < credit e
      let record (e : Purchase) (seq : Nat) : BillingRecord := s.recordOf seq e .credit (credit e) s.su.clock
      exec (.stayClose u) s = .next t ∧
      List.Perm order s.pu.purchases ∧
      List.Pairwise (fun a b : Purchase => a.start < b.start ∨ (a.start = b.start ∧ a.title < b.title)) order ∧
      t.pu = { s.pu with purchases := [] } ∧
      t.bq = credited.foldl (fun bq e => bq.joined (record e)) s.bq ∧
      t.su = { s.su with
        spend := s.su.spend - (credited.map credit).sum
        lastClosed := some { stay := s.su.stayNumber, net := s.su.spend - (credited.map credit).sum }
        occupancy := if t.bq.queue = [] then .vacant else .settling } ∧
      t.lu = { ceiling := s.lu.ceiling, pin := none, failures := 0, lockout := none, strict := none, frozen := false,
               unlocks := Vector.replicate 4 none } ∧
      t.pc.previews = [] ∧
      EventDecided s { s with
        md := s.closedMd, su := t.su, lu := t.lu, pu := t.pu, bq := t.bq, pc := { s.pc with previews := [] } } t s.homes)

/-- R7, R154, R155: ROOM_SETTINGS writes every room setting at once; the marks are clamped and the hold flag tested
against the depth; the capture record is emptied when asked; restarted is cleared; every port is re-evaluated (R88). The
migration at the event's end, what a full Preview List gives up and where its units may stand are the model's readings
(notes/assumptions/10.md, 14.md, 15.md, 29.md). -/
def Obligations.RoomSettingsWriteEverySetting : Prop :=
  ∀ (u : Unit96) (s : State), u.spellsMgmt 8 = true → s.Takes u →
    let high := max 8 (min u.body[8].toNat 40)
    let low := min u.body[9].toNat (high - 1)
    let depth := s.bq.queue.length
    ∃ t, exec (.roomSettings u) s = .next t ∧
      EventDecided s { s with
        su := { s.su with
          group := Fin.ofNat 256 u.body[3].toNat
          cap := min (u.word32 4) 10000000
          discretion := u.body[10].toNat % 2 == 1
          packages := BitVec.ofNat 16 (u.word16 11)
          vacantFirst := Fin.ofNat 256 u.body[13].toNat
          vacantLast := Fin.ofNat 256 u.body[14].toNat
          restarted := false }
        md := { s.closedMd with capture := if u.body[10].toNat / 2 % 2 = 1 then none else s.md.capture }
        bq := { s.bq with high := high, low := low,
                          hold := if high ≤ depth then true else if depth ≤ low then false else s.bq.hold } } t s.homes

/-! ## Time -/

/-- R9, R10, R11, R132: a CLOCK_MARK ahead of the clock sets it to its time T, and takes every event due by T, the
earliest first, so that none registered is left due by T; one that is not ahead raises marks ignored. Either restarts
the silence monitor, ends SILENT and then clears the silent purchase count. A jump adds no outage second and no preview
second. What an event does when it is taken is what its own row of the table does. That the jump takes them inside the
one command, that a row forces its event, and where the units may stand in the list are the model's readings
(notes/assumptions/2.md, 3.md, 29.md). -/
def Obligations.ClockMarkSetsTheClock : Prop :=
  (∀ (u : Unit96) (s : State), u.spellsMgmt 1 = true → s.Takes u →
    let hotel := u.word32 3
    let silentCount := if s.su.silent then 0 else s.pu.silentCount
    let quiet (s' : State) : State := { s' with
      su := { s'.su with silenceCount := 0, silent := false }
      pu := { s'.pu with silentCount := silentCount } }
    (hotel ≤ s.su.clock → exec (.clockMark u) s = .next (quiet { s with
      su := { s.su with marksIgnored := min (s.su.marksIgnored + 1) 65535 } })) ∧
    (s.su.clock < hotel → (∀ d ∈ s.dueEvents, hotel < d.1) →
      exec (.clockMark u) s = .next (quiet { s with su := { s.su with clock := hotel } })) ∧
    (s.su.clock < hotel → ∃ t, exec (.clockMark u) s = .next t ∧ t.su.clock = hotel ∧ t.su.silenceCount = 0 ∧
      t.su.silent = false ∧ t.su.marksIgnored = s.su.marksIgnored ∧ t.pu.silentCount = silentCount ∧
      (∀ e ∈ t.pu.purchases, e ∈ s.pu.purchases) ∧ (∀ r ∈ t.pc.previews, r.seconds = 0 ∨ r ∈ s.pc.previews) ∧
      (s.ks.StoreLaw → (∀ d ∈ t.dueEvents, hotel < d.1) ∧ ∃ taken ended,
        DueRun hotel { s with su := { s.su with clock := hotel } } taken ended ∧ FellIn s (quiet ended) t ∧
        (taken.map (·.1)).Pairwise (· ≤ ·)))) ∧
  (∀ (s : State) (d : Nat × DueEvent), s.ks.StoreLaw → s.PurchaseLaw → s.su.clock < 4294967295 → d ∈ s.dueEvents →
    ∃ t, exec d.2.row s = .next t ∧ FellIn s (s.takeDue d.1 d.2) t)

/-- R8, R10, R11, R97, R99, R137, R139: a local second advances the clock and the silence count; then some of the events
due at the new clock are taken, the earliest first, then the accruals of the second, and then the other due events, so
that none registered is left due. At a second at which none falls due the accruals alone follow the clock. That due
events are taken inside the local second, the outage accrual with the preview one, the migration at an event's end and
where the units may stand are the model's readings (notes/assumptions/3.md, 5.md, 10.md, 15.md, 29.md). -/
def Obligations.LocalSecondAccrues : Prop :=
  ∀ s : State,
    let clock := min (s.su.clock + 1) 4294967295
    let ticked : State := { s with su := { s.su with
      clock := clock
      silenceCount := if s.su.silenceCount < 90 then s.su.silenceCount + 1 else s.su.silenceCount
      silent := s.su.silent || s.su.silenceCount == 89 } }
    (∃ t, exec .localSecond s = .next t ∧ t.su.clock = clock ∧ t.su.silenceCount = ticked.su.silenceCount ∧
      t.su.silent = ticked.su.silent ∧ (s.ks.StoreLaw → ∀ d ∈ t.dueEvents, clock < d.1) ∧
      ∃ first judged accrued rest joined, DueRun clock ticked first judged ∧ Accrued judged accrued ∧
        DueRun clock accrued rest joined ∧ FellIn s joined t ∧ ((first ++ rest).map (·.1)).Pairwise (· ≤ ·)) ∧
    ((∀ d ∈ s.dueEvents, clock < d.1) → ∃ accrued t, exec .localSecond s = .next t ∧ Accrued ticked accrued ∧ FellIn s accrued t)

/-- R11, R91, R93, R114, R115: the rows of time that touch one field. SILENT sets the count to 90, which is the model's
reading of the row (notes/assumptions/25.md); LOCKOUT_END ends the lockout and turns strict mode on with its quiet end
2,400 seconds after the due time; STRICT_QUIET_END turns it off; a signal timer that runs out sets NO_SIGNAL, with a
notice when that is a change; a blank cadence that runs out sends a blank unit, where the list has room, and restarts.
The due events are taken at their own due time (notes/assumptions/2.md), and where a unit may stand in the list is the
model's reading (notes/assumptions/29.md). -/
def Obligations.TimeRowsTouchOneField : Prop :=
  ∀ (s : State) (p : Port),
    exec .silent s = .next { s with su := { s.su with silenceCount := 90, silent := true } } ∧
    (s.lu.lockout = none → exec .lockoutEnd s = .next s) ∧
    (∀ due, s.lu.lockout = some due → s.su.clock < 4294967295 → exec .lockoutEnd s = .next { s with
      lu := { s.lu with lockout := none, strict := some (min (due + 2400) 4294967295) } }) ∧
    exec .strictQuietEnd s = .next { s with lu := { s.lu with strict := none } } ∧
    (∀ v home stream d n, s.port p = .active v home stream d (n + 1) → ∃ t, exec (.signalTimerExpiry p) s = .next t ∧
      FellIn s { s.setPort p (.active v home stream .noSignal 0) with
        rl := { s.rl with transmit := s.rl.transmit ++
          (if d = .noSignal then [] else [.notice p (t.notice p)]) } } t) ∧
    ((∀ v home stream d n, s.port p ≠ .active v home stream d (n + 1)) → exec (.signalTimerExpiry p) s = .next s) ∧
    (∀ r home n, s.port p = .blanked r home n → ∃ t, exec (.blankCadenceExpiry p) s = .next t ∧
      FellIn s { s.setPort p (.blanked r home 500) with
        rl := { s.rl with transmit := s.rl.transmit ++
          (if s.rl.transmit.length < 64 then [.blank p r home] else []) } } t) ∧
    ((s.port p).state ≠ .blanked → exec (.blankCadenceExpiry p) s = .next s)

/-- R117: an unlock that ends, at its time or by RELOCK, leaves the port with none; the port is re-evaluated, and no
other: in PLAYING or PREVIEW it is then within the room's ceiling, and a service rated above that blanks it LOCKED in an
OCCUPIED room with no alert. A port with no unlock is left alone. RELOCK is answered OK in every lock condition (R111).
UNLOCK_END is taken whenever an unlock is in force (notes/assumptions/2.md). The migration at the event's end, what a
full Preview List gives up and where its units may stand are the model's readings (notes/assumptions/10.md, 14.md,
15.md, 29.md). -/
def Obligations.UnlocksEnd : Prop :=
  ∀ (s : State) (p : Port),
    let ended : State := { s with lu := { s.lu with unlocks := s.lu.unlocks.set p none } }
    let here (q : Port) : Option Channel := if q = p then (s.port p).home else none
    let held (t : State) : Prop :=
      (∀ c, (t.port p).home = some c → (t.port p).state = .playing ∨ (t.port p).state = .preview →
        ∃ service, s.entry c = some service ∧ service.rating ≤ s.lu.ceiling) ∧
      (∀ c service, (s.port p).home = some c → s.entry c = some service → s.lu.ceiling < service.rating →
        s.su.occupancy = .occupied → s.su.alert = none → ∃ n, t.port p = .blanked .locked c n)
    (s.lu.unlocks[p] = none → exec (.unlockEnd p) s = .next s) ∧
    (s.lu.unlocks[p] ≠ none → ∃ t, exec (.unlockEnd p) s = .next t ∧ EventDecided s ended t here ∧ held t) ∧
    (∀ u : Unit96, u.spellsRequest 8 = true → s.rl.unanswered < 8 → u.header[1].toNat = p.val →
      (s.lu.unlocks[p] = none →
        exec (.relock u) s = .next { s with rl := s.answeredRl [] (replyTo u .ok 0) }) ∧
      (s.lu.unlocks[p] ≠ none → ∃ t, exec (.relock u) s = .next t ∧
        PortsDecidedAndAnswered s ended t here (replyTo u .ok 0) ∧ held t))

/-! ## The content lock -/

/-- R120, R121: CLEAR_PIN, END_LOCKOUT, FREEZE and UNFREEZE, in every lock condition: each writes its own fields of the
lock record and closes an open burst, and changes nothing else. While the lock is frozen PIN_UNLOCK, PIN_SET and CEILING
are refused FROZEN before any other check of LU's, and RELOCK is still taken. -/
def Obligations.DeskOrdersWriteTheLock : Prop :=
  (∀ (u : Unit96) (s : State), u.spellsMgmt 9 = true → s.Takes u →
    let answers (c : Instr) (lu : LockUnit) := exec c s = .next { s with md := s.closedMd, lu := lu }
    (u.body[3].toNat = 2 →
      answers (.clearPin u) { s.lu with pin := none, failures := 0, lockout := none, strict := none }) ∧
    (u.body[3].toNat = 6 → answers (.endLockout u) { s.lu with lockout := none }) ∧
    (u.body[3].toNat = 3 → answers (.freeze u) { s.lu with frozen := true }) ∧
    (u.body[3].toNat = 4 → answers (.unfreeze u) { s.lu with frozen := false })) ∧
  (∀ (u : Unit96) (s : State), s.lu.frozen = true → s.rl.unanswered < 8 →
    let refused (c : Instr) := exec c s = .next { s with rl := s.answeredRl [] (replyTo u .frozen 0) }
    (u.spellsRequest 5 = true → u.header[1].toNat ≤ 3 → pinOk u 3 = true → refused (.pinUnlock u)) ∧
    (u.spellsRequest 6 = true → pinOk u 1 = true → pinOk u 10 = true → refused (.pinSet u)) ∧
    (u.spellsRequest 7 = true → pinOk u 2 = true → refused (.ceiling u)) ∧
    (∀ p : Port, u.spellsRequest 8 = true → u.header[1].toNat = p.val → ∃ t, exec (.relock u) s = .next t ∧
      t.lu = { s.lu with unlocks := s.lu.unlocks.set p none } ∧ t.rl.transmit.getLast? = some (replyTo u .ok 0)))

/-- R119, R88: SET_CEILING writes the clamped value, frozen or not, and re-evaluates every port only when the ceiling
changes; END_UNLOCKS ends every unlock and re-evaluates only ports that had one. After either, no port that may have
moved plays or previews a service rated above what it is then held to. The migration at the event's end, what a full
Preview List gives up and where its units may stand are the model's readings (notes/assumptions/10.md, 14.md, 15.md,
29.md). -/
def Obligations.CeilingOrdersHoldThePorts : Prop :=
  ∀ (u : Unit96) (s : State), u.spellsMgmt 9 = true → s.Takes u →
    let value := min u.body[4].toNat 7
    let within (t : State) (p : Port) : Prop := ∀ c, (t.port p).home = some c →
      (t.port p).state = .playing ∨ (t.port p).state = .preview →
      ∃ e, s.entry c = some e ∧ e.rating ≤ (if t.lu.unlocks[p] ≠ none then 7 else t.lu.ceiling)
    (u.body[3].toNat = 1 → value = s.lu.ceiling → exec (.setCeiling u) s = .next { s with md := s.closedMd }) ∧
    (u.body[3].toNat = 1 → value ≠ s.lu.ceiling → ∃ t, exec (.setCeiling u) s = .next t ∧
      EventDecided s { s with md := s.closedMd, lu := { s.lu with ceiling := value } } t s.homes ∧ ∀ p, within t p) ∧
    (u.body[3].toNat = 5 → ∃ t, exec (.endUnlocks u) s = .next t ∧
      EventDecided s { s with md := s.closedMd, lu := { s.lu with unlocks := Vector.replicate 4 none } } t
        (fun p => if s.lu.unlocks[p] ≠ none then (s.port p).home else none) ∧
      ∀ p, s.lu.unlocks[p] ≠ none → within t p)

/-- R108 to R110, R112: what the right PIN does, and what needs none. PIN_UNLOCK re-evaluates its port and a CEILING
that changes the ceiling every port. The migration at the event's end, what a full Preview List gives up and the order
of its units are the model's readings (notes/assumptions/10.md, 14.md, 15.md). -/
def Obligations.RightPinOpensTheLock : Prop :=
  ∀ (u : Unit96) (s : State), s.rl.unanswered < 8 → s.lu.frozen = false → s.su.clock < 4294967295 →
    let minutes := max 1 (min (u.word16 1) 240)
    let value := min u.body[1].toNat 7
    (∀ p : Port, u.spellsRequest 5 = true → u.header[1].toNat = p.val → pinOk u 3 = true → s.lu.lockout = none →
      s.lu.pin = some (pinField u 3) → ∃ t, exec (.pinUnlock u) s = .next t ∧
        PortsDecidedAndAnswered s { s with lu := { s.lu with
          failures := 0
          unlocks := s.lu.unlocks.set p (some (min (s.su.clock + 60 * minutes) 4294967295)) } } t
          (fun q => if q = p then (s.port p).home else none) (replyTo u .ok (60 * minutes))) ∧
    (u.spellsRequest 6 = true → pinOk u 1 = true → pinOk u 10 = true → s.su.occupancy = .occupied →
      s.lu.lockout = none → 4 ≤ (pinField u 10).length → s.lu.pin = none ∨ s.lu.pin = some (pinField u 1) →
      exec (.pinSet u) s = .next { s with
        lu := { s.lu with pin := some (pinField u 10), failures := if s.lu.pin = none then s.lu.failures else 0 }
        rl := s.answeredRl [] (replyTo u .ok 0) }) ∧
    (u.spellsRequest 7 = true → pinOk u 2 = true → value = s.lu.ceiling →
      exec (.ceiling u) s = .next { s with rl := s.answeredRl [] (replyTo u .ok value) }) ∧
    (u.spellsRequest 7 = true → pinOk u 2 = true → value < s.lu.ceiling → ∃ t, exec (.ceiling u) s = .next t ∧
      PortsDecidedAndAnswered s { s with lu := { s.lu with ceiling := value } } t s.homes (replyTo u .ok value)) ∧
    (u.spellsRequest 7 = true → pinOk u 2 = true → s.lu.ceiling < value → s.lu.lockout = none →
      s.lu.pin = some (pinField u 2) → ∃ t, exec (.ceiling u) s = .next t ∧
      PortsDecidedAndAnswered s { s with lu := { s.lu with ceiling := value, failures := 0 } } t s.homes
        (replyTo u .ok value))

/-- R113, R112: a wrong PIN that a request compares. Below the budget it is counted and moves the quiet end of strict
mode; at the budget it starts a lockout of 600 seconds, sets failures to 0 and ends every unlock, re-evaluating only
ports that had one. The migration at the event's end, what a full Preview List gives up and the order of its units are
the model's readings (notes/assumptions/10.md, 14.md, 15.md). The reply's detail stays 600 where the end is held at the
clock's last value (notes/assumptions/20.md). -/
def Obligations.WrongPinCountsAFailure : Prop :=
  ∀ (u : Unit96) (s : State) (stored : List Nat) (c : Instr) (offered : List Nat),
    s.rl.unanswered < 8 → s.lu.frozen = false → s.su.clock < 4294967295 → s.lu.lockout = none →
    s.lu.pin = some stored → offered ≠ stored →
    (c = .pinUnlock u ∧ u.spellsRequest 5 = true ∧ u.header[1].toNat ≤ 3 ∧ pinOk u 3 = true ∧ offered = pinField u 3 ∨
      c = .pinSet u ∧ u.spellsRequest 6 = true ∧ pinOk u 1 = true ∧ pinOk u 10 = true ∧ offered = pinField u 1 ∧
        s.su.occupancy = .occupied ∧ 4 ≤ (pinField u 10).length ∨
      c = .ceiling u ∧ u.spellsRequest 7 = true ∧ pinOk u 2 = true ∧ offered = pinField u 2 ∧
        s.lu.ceiling < min u.body[1].toNat 7) →
    let budget := if s.lu.strict = none then 5 else 2
    let strict := s.lu.strict.map fun _ => min (s.su.clock + 2400) 4294967295
    (s.lu.failures + 1 < budget → exec c s = .next { s with
      lu := { s.lu with failures := s.lu.failures + 1, strict := strict }
      rl := s.answeredRl [] (replyTo u .wrongPin (budget - (s.lu.failures + 1))) }) ∧
    (s.lu.failures + 1 = budget → ∃ t, exec c s = .next t ∧
      PortsDecidedAndAnswered s { s with lu := { s.lu with
        failures := 0
        lockout := some (min (s.su.clock + 600) 4294967295)
        strict := strict
        unlocks := Vector.replicate 4 none } } t
        (fun p => if s.lu.unlocks[p] ≠ none then (s.port p).home else none) (replyTo u .lockoutStarted 600))

/-- R108 to R110: the checks before a PIN is compared, in their order. Each refusal changes nothing but its reply. -/
def Obligations.LockRequestsRefused : Prop :=
  ∀ (u : Unit96) (s : State), s.rl.unanswered < 8 →
    let answers (c : Instr) (code : ReplyCode) (detail : Nat) :=
      exec c s = .next { s with rl := s.answeredRl [] (replyTo u code detail) }
    (u.spellsRequest 5 = true → u.header[1].toNat ≤ 3 → pinOk u 3 = true →
      (s.lu.frozen = true → answers (.pinUnlock u) .frozen 0) ∧
      (s.lu.frozen = false → s.lu.pin = none → answers (.pinUnlock u) .noPin 0) ∧
      (∀ due, s.lu.frozen = false → s.lu.pin ≠ none → s.lu.lockout = some due →
        answers (.pinUnlock u) .lockout (due - s.su.clock))) ∧
    (u.spellsRequest 6 = true → pinOk u 1 = true → pinOk u 10 = true →
      (s.lu.frozen = true → answers (.pinSet u) .frozen 0) ∧
      (s.lu.frozen = false → s.su.occupancy ≠ .occupied → answers (.pinSet u) .notOccupied 0) ∧
      (∀ due, s.lu.frozen = false → s.su.occupancy = .occupied → s.lu.lockout = some due →
        answers (.pinSet u) .lockout (due - s.su.clock)) ∧
      (s.lu.frozen = false → s.su.occupancy = .occupied → s.lu.lockout = none → (pinField u 10).length < 4 →
        answers (.pinSet u) .badRequest 0)) ∧
    (u.spellsRequest 7 = true → pinOk u 2 = true →
      (s.lu.frozen = true → answers (.ceiling u) .frozen 0) ∧
      (s.lu.frozen = false → s.lu.ceiling < min u.body[1].toNat 7 → s.lu.pin = none → answers (.ceiling u) .noPin 0) ∧
      (∀ due, s.lu.frozen = false → s.lu.ceiling < min u.body[1].toNat 7 → s.lu.pin ≠ none → s.lu.lockout = some due →
        answers (.ceiling u) .lockout (due - s.su.clock)))

/-! ## The house alert -/

/-- R12, R13, R100: HOUSE_ALERT with a duration above 0. With none active every port not OFF goes to ALERT on the alert
channel, keeping its home channel and, from an active state, its delivery, its timer at 3,000 ms. Active on another
channel, the ports in ALERT take the new one so; on the same channel only the end time changes. A port makes its notice
where a field of it differs (R94). The migration at the event's end and where its units may stand are the model's
readings (notes/assumptions/10.md, 15.md, 29.md). -/
def Obligations.HouseAlertTakesTheScreens : Prop :=
  ∀ (u : Unit96) (s : State), u.spellsMgmt 10 = true → u.duration ≠ 0 → s.Takes u → s.su.clock < 4294967295 →
    let channel : Channel := Fin.ofNat 256 u.body[3].toNat
    let alert : Alert := { channel := channel, endTime := min (s.su.clock + min u.duration 3600) 4294967295 }
    let after : State := { s with md := s.closedMd, su := { s.su with alert := some alert } }
    let stream := (s.entry channel).map fun e => resolveIn s.sf.remap.toList e.stream
    (s.su.alert = none → ∃ t, exec (.houseAlert u) s = .next t ∧ EventMoved s after t ∧
      t.pc.previews = s.pc.previews ∧
      ∀ p : Port, match s.port p with
        | .off => t.port p = .off
        | .active .alert home _ _ _ => ∃ st d n, t.port p = .active .alert home st d n
        | .active _ home _ d _ => t.port p = .active .alert home stream d 3000
        | .blanked _ home _ => t.port p = .active .alert home stream .noSignal 3000) ∧
    (∀ old, s.su.alert = some old → old.channel ≠ channel → ∃ t, exec (.houseAlert u) s = .next t ∧
      EventMoved s after t ∧ t.pc.previews = s.pc.previews ∧
      ∀ p : Port, t.port p = match s.port p with
        | .active .alert home _ d _ => .active .alert home stream d 3000
        | r => r) ∧
    (∀ old, s.su.alert = some old → old.channel = channel → exec (.houseAlert u) s = .next after)

/-- R14, R101, R88: the alert's end, by a stop or by its end time: the alert is cleared, no port that was in ALERT is
left in it, and each is re-evaluated, and no other port: on an ABSENT home channel it goes to BLANKED NOT_ENTITLED, and
PLAYING or PREVIEW is within its effective ceiling. With none active nothing changes but the burst. HOUSE_ALERT_END is
taken whenever an alert is active (notes/assumptions/2.md). The migration at the event's end, what a full Preview List
gives up and where its units may stand are the model's readings (notes/assumptions/10.md, 14.md, 15.md, 29.md). -/
def Obligations.AlertEndsAndPortsReturn : Prop :=
  ∀ (u : Unit96) (s : State), u.spellsMgmt 10 = true → u.duration = 0 → s.Takes u →
    let ended (s' t : State) : Prop :=
      EventDecided s { s' with su := { s.su with alert := none } } t
        (fun p => if (s.port p).state = .alert then (s.port p).home else none) ∧
      ∀ (p : Port) (c : Channel), (s.port p).state = .alert → (s.port p).home = some c →
          (t.port p).state ≠ .alert ∧ (t.port p).state ≠ .off ∧ (t.port p).home = some c ∧
          (s.entry c = none → t.port p = .blanked .notEntitled c 500) ∧
          ((t.port p).state = .playing ∨ (t.port p).state = .preview →
            (t.port p).delivery = (s.port p).delivery ∧ ∃ e, s.entry c = some e ∧ e.rating ≤ s.effectiveCeiling p)
    (s.su.alert = none → exec (.houseAlertStop u) s = .next { s with md := s.closedMd } ∧
      exec .houseAlertEnd s = .next s) ∧
    (s.su.alert ≠ none → (∃ t, exec (.houseAlertStop u) s = .next t ∧ ended { s with md := s.closedMd } t) ∧
      ∃ t, exec .houseAlertEnd s = .next t ∧ ended s t)

/-! ## Purchases -/

/-- R127 to R129, R133, R166: the checks of a BUY and of a CANCEL in their order. A refusal changes nothing but the reply.
`charge` is what the calculator gives for the channel's price entry at the clock. -/
def Obligations.RefusedPurchasesChangeNothing : Prop :=
  ∀ (u : Unit96) (s : State) (p : Port), s.rl.unanswered < 8 → u.header[1].toNat = p.val → u.word16 1 ≤ 255 →
    let c : Channel := Fin.ofNat 256 (u.word16 1)
    let answers (i : Instr) (code : ReplyCode) := exec i s = .next { s with rl := s.answeredRl [] (replyTo u code 0) }
    let refused (code : ReplyCode) := answers (.buy u) code
    let held := (s.port p).home.bind s.titleOn |>.bind s.purchase
    (u.spellsRequest 3 = true →
      (s.su.alert ≠ none → refused .alertActive) ∧
      (s.su.alert = none → s.entry c = none → refused .noChannel) ∧
      ∀ e, s.su.alert = none → s.entry c = some e →
        (s.su.occupancy ≠ .occupied → refused .notOccupied) ∧
        (s.su.occupancy = .occupied → e.tier.title = none → refused .notFilm) ∧
        ∀ title k, s.su.occupancy = .occupied → e.tier = .film title k →
          (s.effectiveCeiling p < e.rating → refused .locked) ∧
          (e.rating ≤ s.effectiveCeiling p → s.purchase title = none →
            (s.bq.hold = true → refused .hold) ∧
            (s.bq.hold = false → 8 ≤ s.pu.purchases.length → refused .tableFull) ∧
            (s.bq.hold = false → s.pu.purchases.length < 8 →
              (s.su.silent = true → 2 ≤ s.pu.silentCount → refused .silentLimit) ∧
              (s.su.silent = false ∨ s.pu.silentCount < 2 →
                (s.price k = none → refused .noPrice) ∧
                ∀ entry, s.price k = some entry → s.su.cap < s.su.spend + entry.charge s.su.clock →
                  refused .cap)))) ∧
    (u.spellsRequest 4 = true →
      (held = none → answers (.cancel u) .nothingToCancel) ∧
      ∀ e, held = some e → 300 < s.su.clock - e.start → answers (.cancel u) .graceOver)

/-- R128: a BUY of a title that an open purchase holds plays the port, answers SHARED and costs nothing. The migration
at the event's end, what a full Preview List gives up and the order of its units are the model's readings
(notes/assumptions/10.md, 14.md, 15.md). -/
def Obligations.SharedBuyCostsNothing : Prop :=
  ∀ (u : Unit96) (s : State) (p : Port) (e : Service) (title : Nat) (k : PriceCode), u.spellsRequest 3 = true →
    s.rl.unanswered < 8 → u.header[1].toNat = p.val → u.word16 1 ≤ 255 →
    s.entry (Fin.ofNat 256 (u.word16 1)) = some e → e.tier = .film title k → s.su.alert = none →
    s.su.occupancy = .occupied → e.rating ≤ s.effectiveCeiling p → s.purchase title ≠ none →
    ∃ t, exec (.buy u) s = .next t ∧ PortsDecidedAndAnswered s s t
        (fun q => if q = p then some (Fin.ofNat 256 (u.word16 1)) else none) (replyTo u .shared 0) ∧
      t.pc.previews = s.pc.previews ∧
      t.port p = .active .playing (Fin.ofNat 256 (u.word16 1)) (some (resolveIn s.sf.remap.toList e.stream))
        ((s.port p).delivery.getD .noSignal) 3000

/-- R98, R130, R131, R151, R152, R155: an accepted BUY opens the purchase, raises spend, appends its PURCHASE record,
takes up the preview, counts a silent purchase, plays the named port and re-evaluates every other port on the title; the
reply is OK. The migration at the event's end, what a full Preview List gives up and the order of its units are the
model's readings (notes/assumptions/10.md, 14.md, 15.md). -/
def Obligations.AcceptedBuyOpensThePurchase : Prop :=
  ∀ (u : Unit96) (s : State) (p : Port) (e : Service) (title : Nat) (k : PriceCode) (entry : PriceEntry),
    u.spellsRequest 3 = true → s.rl.unanswered < 8 → u.header[1].toNat = p.val → u.word16 1 ≤ 255 →
    s.entry (Fin.ofNat 256 (u.word16 1)) = some e → e.tier = .film title k → s.price k = some entry →
    s.su.alert = none → s.su.occupancy = .occupied → e.rating ≤ s.effectiveCeiling p → s.purchase title = none →
    s.bq.hold = false → s.pu.purchases.length < 8 → s.su.silent = false ∨ s.pu.silentCount < 2 →
    s.su.spend + entry.charge s.su.clock ≤ s.su.cap → s.su.clock < 4294967295 →
    let c : Channel := Fin.ofNat 256 (u.word16 1)
    let adult := decide (6 ≤ e.rating)
    let takenUp : List Preview := match s.previewRecord title with
      | some _ => s.pc.previews.map fun r =>
          if r.title = title then { r with seconds := max r.seconds entry.preview, bought := true } else r
      | none => joinedList s.isPreviewed s.pc.previews { title := title, seconds := entry.preview, bought := true }
    ∃ t, exec (.buy u) s = .next t ∧
      PortsDecidedAndAnswered s { s with
        pc := { s.pc with previews := takenUp }
        su := { s.su with spend := s.su.spend + entry.charge s.su.clock }
        pu := {
          purchases := s.pu.purchases ++ [{
            title := title, price := k, rating := e.rating, start := s.su.clock, window := entry.window
            windowEnd := min (s.su.clock + entry.window) 4294967295, charge := entry.charge s.su.clock
            offPeak := entry.isOffPeak s.su.clock, silent := s.su.silent, outage := 0 }]
          silentCount := if s.su.silent then s.pu.silentCount + 1 else s.pu.silentCount }
        bq := { s.bq with
          queue := s.bq.queue ++ [{
            seq := s.bq.nextSeq, stay := s.su.stayNumber, kind := .purchase
            category := if adult then .adult else .film
            title := if adult && s.su.discretion then 0 else title, price := k, time := s.su.clock
            amount := entry.charge s.su.clock, offPeak := entry.isOffPeak s.su.clock, silent := s.su.silent
            discreet := adult && s.su.discretion, sent := false }]
          nextSeq := (s.bq.nextSeq + 1) % 65536
          hold := holdTest s.bq.high s.bq.low (s.bq.queue.length + 1) s.bq.hold } } t
        (fun q => if q = p then some c else s.homesWith title q) (replyTo u .ok 0) ∧
      t.previewRecord title = some {
        title := title, bought := true
        seconds := max (((s.previewRecord title).map (·.seconds)).getD 0) entry.preview } ∧
      t.port p = .active .playing c (some (resolveIn s.sf.remap.toList e.stream))
        ((s.port p).delivery.getD .noSignal) 3000

/-- R131, R134, R150 to R152, R155: a CANCEL within the grace removes the purchase, gives its whole charge back and
appends its VOID record, in the form that the rating and the discretion give, not sent and with the hold tested; the
ports on the title, and no other, are re-evaluated, and none of them then plays it. The migration at the event's end,
what a full Preview List gives up and the order of its units are the model's readings (notes/assumptions/10.md, 14.md,
15.md). -/
def Obligations.CancelVoidsThePurchase : Prop :=
  ∀ (u : Unit96) (s : State) (p : Port) (c : Channel) (title : Nat) (e : Purchase), u.spellsRequest 4 = true →
    s.rl.unanswered < 8 → u.header[1].toNat = p.val → (s.port p).home = some c → s.titleOn c = some title →
    s.purchase title = some e → s.su.clock - e.start ≤ 300 →
    ∃ t, exec (.cancel u) s = .next t ∧
      PortsDecidedAndAnswered s { s with
        su := { s.su with spend := s.su.spend - e.charge }
        pu := { s.pu with purchases := s.pu.purchases.filter fun x => x.title != title }
        bq := s.bq.joined fun seq => s.recordOf seq e .void e.charge s.su.clock } t (s.homesWith title)
        (replyTo u .ok 0) ∧
      ∀ q, (s.port q).home.bind s.titleOn = some title → (t.port q).state ≠ .playing

/-- R131, R135, R147, R150 to R152, R155: the window end closes the purchase: a credit above 0 is appended with the due
time, as a CREDIT record in the form that the rating and the discretion give, not sent and with the hold tested, and
lowers spend; the entry goes; the ports on the title, and no other, are re-evaluated, and none of them then plays it.
PURCHASE_WINDOW_END is taken whenever the purchase is open (notes/assumptions/2.md). The migration at the event's end,
what a full Preview List gives up and where its units may stand are the model's readings (notes/assumptions/10.md,
14.md, 15.md, 29.md). -/
def Obligations.WindowEndClosesThePurchase : Prop :=
  ∀ (s : State) (title : Nat),
    (s.purchase title = none → exec (.purchaseWindowEnd title) s = .next s) ∧
    ∀ e, s.purchase title = some e →
      let credit := creditOf e.charge e.outage e.window
      ∃ t, exec (.purchaseWindowEnd title) s = .next t ∧
        EventDecided s { s with
          su := { s.su with spend := s.su.spend - credit }
          pu := { s.pu with purchases := s.pu.purchases.filter fun x => x.title != title }
          bq := if 0 < credit then s.bq.joined fun seq => s.recordOf seq e .credit credit e.windowEnd else s.bq } t
          (s.homesWith title) ∧
        ∀ q, (s.port q).home.bind s.titleOn = some title → (t.port q).state ≠ .playing

/-- R144, R145: the day minute, the off-peak band and the charge: inside the band the off-peak price, else the standard
one, plus the tax rounded half up to a whole unit. -/
def Obligations.ChargeOfAFilm : Prop :=
  ∀ (e : PriceEntry) (clock : Nat),
    let m := clock % 86400 / 60
    let band := (e.bandStart < e.bandEnd ∧ e.bandStart ≤ m ∧ m < e.bandEnd) ∨
      (e.bandEnd < e.bandStart ∧ (e.bandStart ≤ m ∨ m < e.bandEnd))
    m ≤ 1439 ∧ (band ↔ e.isOffPeak clock = true) ∧
    ∃ base tax, (band → base = e.offPeak) ∧ (¬ band → base = e.standard) ∧
      2 * (base * e.tax) < 1000 * (2 * tax + 1) ∧ 1000 * (2 * tax) ≤ 2 * (base * e.tax) + 1000 ∧
      e.charge clock = base + tax ∧
      (e.standard ≤ 65535 → e.offPeak ≤ 65535 → e.tax ≤ 250 → e.charge clock ≤ 81919)

/-- R147, R148: the credit: 0 below 120 outage seconds, the whole charge from half the window on, else the floor of charge
times outage seconds over the window; never more than the charge, and in the last case below half of it. -/
def Obligations.CreditOfAnOutage : Prop :=
  ∀ (charge outage window : Nat), 600 ≤ window →
    let credit := creditOf charge outage window
    (outage < 120 → credit = 0) ∧
    (120 ≤ outage → window ≤ 2 * outage → credit = charge) ∧
    (120 ≤ outage → 2 * outage < window →
      credit * window ≤ charge * outage ∧ charge * outage < (credit + 1) * window ∧ 2 * credit ≤ charge) ∧
    credit ≤ charge

/-! ## Collection -/

/-- R19, R156, R158, R159: a POLL addressed to the room composes one return unit with the status summary and the four
oldest records, or the capture record. It begins at once, stamped with the next count and its records marked sent, or
waits; of four waiting the oldest is dropped and counted. When a transmission ends the oldest waiting unit begins so.
RETURN_TRANSMIT_END with no transmission under way and no unit waiting changes nothing, which is the model's choice
(notes/assumptions/2.md). -/
def Obligations.PollsAndReturnUnits : Prop :=
  ∀ (u : Unit96) (s : State),
    let begun (s' : State) (unit : ReturnUnit) (carried : List BillingRecord) (t : State) : Prop :=
      t = { s' with fi := t.fi, bq := t.bq } ∧
      t.fi = { s'.fi with
        sending := some { count := s'.fi.nextCount, unit := unit }, nextCount := (s'.fi.nextCount + 1) % 16 } ∧
      t.bq = { s'.bq with queue := s'.bq.queue.map fun r =>
        if r.seq ∈ carried.map (·.seq) then { r with sent := true } else r }
    let handed (c : Instr) (unit : ReturnUnit) (carried : List BillingRecord) : Prop :=
      (s.fi.sending = none → ∃ t, exec c s = .next t ∧ begun s unit carried t) ∧
      (s.fi.sending ≠ none → s.fi.waiting.length < 4 →
        exec c s = .next { s with fi := { s.fi with waiting := s.fi.waiting ++ [unit] } }) ∧
      (s.fi.sending ≠ none → 4 ≤ s.fi.waiting.length → exec c s = .next { s with fi := { s.fi with
        waiting := s.fi.waiting.drop 1 ++ [unit], dropped := min (s.fi.dropped + 1) 65535 } })
    (u.spellsMgmt 11 = true → u.checkOk = true → u.word16 0 ≠ 0 → u.word16 0 = s.room.toNat →
      (u.body[3].toNat = 1 →
        handed (.pollBilling u) { summary := s.summary, content := .billing (s.bq.queue.take 4) } (s.bq.queue.take 4)) ∧
      (u.body[3].toNat = 2 →
        handed (.pollCapture u) { summary := s.summary, content := .capture s.md.capture } [])) ∧
    (s.fi.waiting = [] → exec .returnTransmitEnd s = .next { s with fi := { s.fi with sending := none } }) ∧
    (∀ unit rest, s.fi.waiting = unit :: rest → ∃ t, exec .returnTransmitEnd s = .next t ∧
      begun { s with fi := { s.fi with waiting := rest } } unit
        (match unit.content with | .billing rs => rs | .capture _ => []) t)

/-- R174, R176, R177: the bytes of every unit the part sends, so far as the values it carries are within their ranges.
Of a return unit: the header, the status summary with its flags, ports, counters, last refusal and last closed stay, and
then the record flags and the record slots, or the capture record. Of a link unit: its header and the body of its kind.
Every byte that is not named is 0. That QUERY_ROOM's alert byte is 1 or 0, its alert channel and seconds left are 0 with
no alert, and its lockout seconds 0 with no lockout, is the model's choice (notes/assumptions/28.md). -/
def Obligations.UnitsSentLayout : Prop :=
  let flag (b : Bool) (n : Nat) : Nat := if b then 2 ^ n else 0
  let zeroFrom (f : Unit96) (n : Nat) : Prop := ∀ i, n ≤ i → f.byte i = 0
  (∀ (s : State) (count : Nat) (capture : Bool), count < 16 → s.su.stayNumber < 65536 → s.su.clock < 4294967296 →
    s.bq.queue.length ≤ 48 → s.bq.nextSeq < 65536 → s.su.spend < 16777216 → s.su.cap < 16777216 → s.lu.ceiling ≤ 7 →
    s.CounterLaw → (∀ r ∈ s.md.lastRefusal, r.clock < 4294967296) → (∀ c ∈ s.su.lastClosed, c.net < 16777216) →
    (∀ c ∈ s.md.capture, c.clock < 4294967296) →
    (∀ r ∈ s.bq.queue, r.stay < 65536 ∧ r.title < 65536 ∧ r.time < 4294967296 ∧ r.amount < 131072) →
    let f := (SentReturn.mk count (if capture then s.captureUnit else s.billingUnit)).frame
    let slots := s.bq.queue.take 4
    (f.header[0].toNat = 4 ∧ f.header[1].toNat * 256 + f.header[2].toNat = 4095 ∧ f.header[3].toNat = count ∧
      f.header[4].toNat * 256 + f.header[5].toNat =
        (match s.su.occupancy with | .vacant => 0 | .occupied => 1 | .settling => 2) * 16384 + s.room.toNat ∧
      f.header[6].toNat = s.su.group.val ∧
      f.header[7].toNat = flag s.su.silent 0 + flag s.su.restarted 1 + flag s.bq.hold 2 + flag s.md.capture.isSome 3 +
        flag s.lu.pin.isSome 4 + flag s.lu.lockout.isSome 5 + flag s.lu.strict.isSome 6 + flag s.lu.frozen 7) ∧
    (f.word16 0 = s.su.stayNumber ∧ f.word32 2 = s.su.clock ∧
      f.word16 6 = s.lu.ceiling * 8192 + (match s.md.lastRefusal.map (·.reason) with
        | none => 0
        | some .badKind => 1
        | some .badField => 2
        | some .roomOnly => 3
        | some .bounds => 4
        | some .noBurst => 5
        | some .occupied => 6
        | some .expired => 7) * 1024 + flag s.su.lastClosed.isSome 9 + flag capture 6 + s.bq.queue.length ∧
      f.word16 8 = s.bq.nextSeq ∧ f.word24 10 = s.su.spend ∧ f.word24 13 = s.su.cap) ∧
    (∀ p : Port, f.word16 16 / 16 ^ (3 - p.val) % 16 = match s.port p with
      | .off => 0
      | .blanked r _ _ => (match r with
        | .vacant => 1 | .locked => 2 | .notEntitled => 3 | .notPurchased => 4 | .previewOver => 5)
      | .active v _ _ d _ => (match v with | .playing => 6 | .preview => 9 | .alert => 12) +
        (match d with | .flowing => 0 | .noSignal => 1 | .noKey => 2)) ∧
    (f.word16 18 = s.sf.formatFaults ∧ f.word16 20 = s.md.checkFailures ∧ f.word16 22 = s.md.refusals ∧
      f.word16 24 = s.md.overruns ∧ f.word16 26 = s.fi.dropped ∧ f.word16 28 = s.su.marksIgnored ∧
      f.word16 30 = s.ks.replaced ∧ f.word16 32 = s.ks.displaced) ∧
    (f.byte 34 = (s.md.lastRefusal.map (·.kind)).getD 0 ∧ f.word32 35 = (s.md.lastRefusal.map (·.clock)).getD 0 ∧
      f.word24 39 = (s.su.lastClosed.map (·.net)).getD 0) ∧
    (capture = false →
      (∀ i, i < 4 → f.word16 42 / 8 ^ i % 8 = match slots[i]? with
        | none => 0
        | some r => flag (r.category == .adult) 2 + flag r.offPeak 1 + flag r.silent 0) ∧ f.word16 42 < 4096 ∧
      (∀ (i : Nat) (r : BillingRecord), slots[i]? = some r →
        f.word16 (44 + 11 * i) = r.stay ∧ f.word16 (46 + 11 * i) = r.title ∧ f.word32 (48 + 11 * i) = r.time ∧
        f.word24 (52 + 11 * i) =
          (match r.kind with | .purchase => 0 | .credit => 1 | .void => 2) * 4194304 + r.price.val * 131072 + r.amount) ∧
      zeroFrom f (44 + 11 * slots.length)) ∧
    (capture = true → f.word16 42 = 0 ∧ zeroFrom f 72 ∧
      (s.md.capture = none → zeroFrom f 44) ∧
      (∀ c, s.md.capture = some c → (∀ i : Fin 8, f.byte (44 + i.val) = c.header[i]) ∧
        (∀ i : Fin 16, f.byte (52 + i.val) = c.body[i]) ∧ f.word32 68 = c.clock))) ∧
  ∀ x : LinkUnit,
    let f := x.frame
    let header (kind port : Nat) : Prop := f.header[0].toNat = kind ∧ f.header[1].toNat = port ∧
      f.header[5] = 0 ∧ f.header[6] = 0 ∧ f.header[7] = 0
    let bare : Prop := f.header[2] = 0 ∧ f.header[3] = 0 ∧ f.header[4] = 0
    let reason (r : BlankReason) : Nat := match r with
      | .vacant => 1 | .locked => 2 | .notEntitled => 3 | .notPurchased => 4 | .previewOver => 5
    match x with
    | .programme p stream count body => stream < 65536 → count < 256 →
      header 16 p.val ∧ f.header[2].toNat * 256 + f.header[3].toNat = stream ∧ f.header[4].toNat = count ∧ f.body = body
    | .blank p r home => header 17 p.val ∧ bare ∧ (f.byte 0).toNat = reason r ∧ f.word16 1 = home.val ∧ zeroFrom f 3
    | .notice p n => header 18 p.val ∧ bare ∧
      (f.byte 0).toNat = (match n.state with | .off => 0 | .playing => 1 | .preview => 2 | .blanked => 3 | .alert => 4) ∧
      (f.byte 1).toNat = (n.reason.map reason).getD 0 ∧
      (f.byte 2).toNat = (match n.delivery with
        | none => 0 | some .flowing => 1 | some .noSignal => 2 | some .noKey => 3) ∧
      f.word16 3 = (n.home.map (·.val)).getD 65535 ∧ f.word16 5 = (n.shown.map (·.val)).getD 65535 ∧ zeroFrom f 7
    | .listEntry e => e.rating < 256 → e.tier.title.getD 0 < 65536 → e.charge < 16777216 → e.remaining < 4294967296 →
      e.previewLeft < 65536 → header 19 e.port.val ∧ bare ∧ (f.byte 0).toNat = e.channel.val ∧
      (f.byte 1).toNat = (match e.tier with | .house => 0 | .free => 1 | .package _ => 2 | .film _ _ => 3) ∧
      (f.byte 2).toNat = e.rating ∧ (f.byte 3).toNat = (match e.tier with | .package n => n.val | _ => 0) ∧
      (f.byte 4).toNat = flag e.entitled 0 + flag e.priced 1 + flag e.offPeak 2 + flag e.purchased 3 ∧
      f.word16 5 = e.tier.title.getD 0 ∧ f.word24 7 = e.charge ∧ f.word32 10 = e.remaining ∧
      f.word16 14 = e.previewLeft ∧ zeroFrom f 16
    | .reply r => r.detail < 65536 → header 20 r.port.toNat ∧ bare ∧ f.byte 0 = r.kind ∧
      [ReplyCode.ok, .shared, .alertActive, .noChannel, .notOccupied, .notFilm, .noPrice, .locked, .hold, .tableFull,
        .silentLimit, .cap, .nothingToCancel, .graceOver, .wrongPin, .lockoutStarted, .lockout, .frozen, .noPin,
        .badRequest][(f.byte 1).toNat]? = some r.code ∧ f.word16 2 = r.detail ∧
      match r.report with
      | none => zeroFrom f 4
      | some q => q.ceiling < 256 → q.spend < 16777216 → q.cap < 16777216 → (∀ a ∈ q.alert, a.2 < 65536) →
        (∀ n ∈ q.lockout, n < 65536) → (∀ p : Port, ∀ n ∈ q.unlocks[p], n < 65536) →
        (f.byte 4).toNat = (match q.occupancy with | .vacant => 0 | .occupied => 1 | .settling => 2) ∧
        (f.byte 5).toNat = flag q.alert.isSome 0 ∧ (f.byte 6).toNat = (q.alert.map (·.1.val)).getD 0 ∧
        f.word16 7 = (q.alert.map (·.2)).getD 0 ∧ (f.byte 9).toNat = q.ceiling ∧
        (f.byte 10).toNat = flag q.pinSet 0 + flag q.lockout.isSome 1 + flag q.strict 2 + flag q.frozen 3 ∧
        f.word16 11 = q.lockout.getD 0 ∧ (∀ p : Port, f.word16 (13 + 2 * p.val) = q.unlocks[p].getD 0) ∧
        f.word24 21 = q.spend ∧ f.word24 24 = q.cap ∧ zeroFrom f 27

/-- R160, R5, R155: a RELEASE addressed to the room removes records from the head while the head is sent and within 48 of
its number, and stops at the first that fails. The hold flag clears when the depth comes to the low mark. Emptying the queue
takes a SETTLING room to VACANT, and no other change of occupancy. -/
def Obligations.ReleaseRemovesFromTheHead : Prop :=
  ∀ (u : Unit96) (s : State), u.spellsMgmt 12 = true → u.checkOk = true → u.word16 0 ≠ 0 →
    u.word16 0 = s.room.toNat → s.bq.MarksLaw → s.bq.HoldLaw → (∀ r ∈ s.bq.queue, r.seq < 65536) →
    let passes (r : BillingRecord) : Prop := r.sent = true ∧ ((u.word16 3 : Int) - (r.seq : Int)) % 65536 < 48
    ∃ t gone, exec (.release u) s = .next t ∧ s.bq.queue = gone ++ t.bq.queue ∧ (∀ r ∈ gone, passes r) ∧
      (∀ r, t.bq.queue.head? = some r → ¬ passes r) ∧
      t.bq = { s.bq with queue := t.bq.queue, hold := s.bq.hold && (gone.isEmpty || s.bq.low < t.bq.queue.length) } ∧
      t = { s with md := s.closedMd, bq := t.bq, su := { s.su with occupancy :=
        if gone ≠ [] ∧ t.bq.queue = [] ∧ s.su.occupancy = .settling then .vacant else s.su.occupancy } }

/-! ## Resets of the room -/

/-- R16, R70, R103, R104, R142, R169, R170: ROOM_RESET turns every port OFF with a notice for each that was not, ends the
alert, empties the key store and closes the burst; its notices join the list behind every unit that waits, the reply of a
request taken before it among them. LINK_RESET turns the ports OFF so, ends every unlock, moves the arrival slot's entry
into a way by migration, abandons every pending listing, whose reply then counts the entries that had left, and answers
OK. The migration at the event's end and the count `ahead` are the model's readings (notes/assumptions/10.md, 29.md). -/
def Obligations.ResetsTurnPortsOff : Prop :=
  ∀ (u : Unit96) (s : State),
    let offNotice (p : Port) : LinkUnit :=
      .notice p { state := .off, reason := none, home := none, shown := none, delivery := none }
    let notices (l : List LinkUnit) : Prop :=
      ∃ ps : List Port, ps.Nodup ∧ (∀ p, p ∈ ps ↔ s.port p ≠ .off) ∧ l = ps.map offNotice
    let emptySet : KeySet := { way0 := none, way1 := none, recent := .way0 }
    let isEntry (x : LinkUnit) : Bool := match x with
      | .listEntry _ => true
      | _ => false
    (u.spellsMgmt 13 = true → s.Takes u → ∃ t l, exec (.roomReset u) s = .next t ∧ notices l ∧ t = { s with
      su := { s.su with alert := none }
      md := s.closedMd
      ks := { s.ks with sets := Vector.replicate 32 emptySet, slot := none }
      pc := { s.pc with ports := Vector.replicate 4 .off }
      rl := { s.rl with
        transmit := s.rl.transmit ++ l
        ahead := if l = [] then s.rl.ahead else (s.rl.transmit ++ l).length }
      choices := t.choices }) ∧
    (u.spellsRequest 12 = true → s.rl.unanswered < 8 → ∃ t l, exec (.linkReset u) s = .next t ∧ notices l ∧
      t = { s with
        lu := { s.lu with unlocks := Vector.replicate 4 none }
        pc := { s.pc with ports := Vector.replicate 4 .off }
        ks := t.ks
        rl := t.rl
        choices := t.choices } ∧
      KeysMigrated s t ∧ t.ks.slot = none ∧
      t.rl = { s.rl with unanswered := s.rl.unanswered + 1, transmit := t.rl.transmit, ahead := t.rl.ahead } ∧
      ∀ (listings : List (List LinkUnit × Reply)) (after : List LinkUnit),
        s.rl.transmit = (listings.flatMap fun x => x.1 ++ [.reply x.2]) ++ after →
        (∀ x ∈ listings, x.2.kind = 9 ∧ ∀ r, .reply r ∈ x.1 → r.kind ≠ 9) → (∀ x ∈ after, isEntry x = false) →
        t.rl.transmit = (listings.flatMap fun x =>
            x.1.filter (fun y => !isEntry y) ++ [.reply { x.2 with detail := x.2.detail - (x.1.filter isEntry).length }]) ++
              after ++ l ++ [replyTo u .ok 0] ∧
        t.rl.ahead + l.length = t.rl.transmit.length)

/-! ## Tunes, listings and queries -/

/-- R83 to R86, R96: a TUNE by the check that applies: the named port is decided for the channel, ends as the decision
places it and makes its notice and first blank unit, with the reply after them. An ABSENT channel leaves it as it is. No
other port moves. The Preview List changes only where the port enters PREVIEW for a title that has no record. That the
moving port's own old title does not count as previewed when a full list gives up a record is the model's reading
(notes/assumptions/14.md). So is the migration at the event's end (notes/assumptions/10.md). -/
def Obligations.TuneFollowsTheDecision : Prop :=
  ∀ (u : Unit96) (s : State) (p : Port), u.spellsRequest 1 = true → s.rl.unanswered < 8 → u.header[1].toNat = p.val →
    u.word16 1 ≤ 255 →
    let c : Channel := Fin.ofNat 256 (u.word16 1)
    (s.su.alert = none → s.entry c = none → s.SlotLaw →
      exec (.tune u) s = .next { s with rl := s.answeredRl [] (replyTo u .noChannel 0) }) ∧
    (s.su.alert ≠ none ∨ s.entry c ≠ none → ∃ t d, exec (.tune u) s = .next t ∧
      s.Decides s.pc.previews p c d ∧ t.port p = s.placed (s.port p) c d ∧
      PortsDecidedAndAnswered s s t (fun q => if q = p then some c else none)
        (replyTo u (if s.su.alert = none then .ok else .alertActive) 0) ∧
      let elsewhere (x : Preview) : Prop := ∃ q, q ≠ p ∧ (s.port q).state = .preview ∧
        (s.port q).home.bind s.titleOn = some x.title
      (d ≠ .preview → t.pc.previews = s.pc.previews) ∧
      (d = .preview → ∃ title, s.titleOn c = some title ∧
        let fresh : Preview := { title := title, seconds := 0, bought := false }
        (s.previewRecord title ≠ none → t.pc.previews = s.pc.previews) ∧
        (s.previewRecord title = none → s.pc.previews.length < 8 → t.pc.previews = s.pc.previews ++ [fresh]) ∧
        (s.previewRecord title = none → 8 ≤ s.pc.previews.length → ∀ before x after,
          s.pc.previews = before ++ x :: after → (∀ y ∈ before, elsewhere y) → ¬ elsewhere x →
          t.pc.previews = before ++ after ++ [fresh])))

/-- R87, R168: OFF leaves the port OFF, with a notice when it was not. QUERY_PORT answers with a notice of the port's
present record and QUERY_ROOM with the room's fields, its times as the seconds left; the queries change nothing else.
The migration at the event's end is the model's reading (notes/assumptions/10.md). -/
def Obligations.OffAndTheQueries : Prop :=
  ∀ (u : Unit96) (s : State), s.rl.unanswered < 8 →
    (∀ p : Port, u.spellsRequest 2 = true → u.header[1].toNat = p.val → ∃ t, exec (.off u) s = .next t ∧
      SameOutsidePorts s t ∧ KeysMigrated s t ∧ t.pc = { s.pc with ports := s.pc.ports.set p .off } ∧
      t.rl = s.answeredRl (if s.port p = .off then [] else
        [.notice p { state := .off, reason := none, home := none, shown := none, delivery := none }]) (replyTo u .ok 0)) ∧
    (∀ p : Port, u.spellsRequest 10 = true → u.header[1].toNat = p.val →
      let fields : NoticeFields := {
        state := (s.port p).state
        reason := (s.port p).reason
        home := (s.port p).home
        shown := (if (s.port p).state = .alert then s.su.alert.map (·.channel) else (s.port p).home)
        delivery := (s.port p).delivery }
      exec (.queryPort u) s = .next { s with rl := s.answeredRl [.notice p fields] (replyTo u .ok 0) }) ∧
    (u.spellsRequest 11 = true →
      exec (.queryRoom u) s = .next { s with rl := s.answeredRl [] (.reply {
        port := 0, kind := u.body[0], code := .ok, detail := 0
        report := some {
          occupancy := s.su.occupancy
          alert := s.su.alert.map fun a => (a.channel, a.endTime - s.su.clock)
          ceiling := s.lu.ceiling
          pinSet := s.lu.pin.isSome
          lockout := s.lu.lockout.map fun t => t - s.su.clock
          strict := s.lu.strict.isSome
          frozen := s.lu.frozen
          unlocks := s.lu.unlocks.map fun x => x.map fun t => t - s.su.clock
          spend := s.su.spend
          cap := s.su.cap } }) })

/-- R46 to R50: a LIST answers with one entry for each channel examined that is PRESENT and visible to the port, in
ascending order, and then OK with their number; each entry carries what its tier, the open purchases, the price entry
and the Preview List give at the clock. Nothing else changes. -/
def Obligations.ListComposesItsEntries : Prop :=
  ∀ (u : Unit96) (s : State) (p : Port), u.spellsRequest 9 = true → s.rl.unanswered < 8 → u.header[1].toNat = p.val →
    u.word16 1 ≤ 255 → 1 ≤ u.body[3].toNat → u.body[3].toNat ≤ 16 →
    let visible (c : Channel) (e : Service) : Prop := e.rating ≤ s.effectiveCeiling p ∧
      (s.su.occupancy = .occupied ∨ e.tier = .house ∨
        if s.su.vacantFirst ≤ s.su.vacantLast then s.su.vacantFirst ≤ c ∧ c ≤ s.su.vacantLast
        else s.su.vacantFirst ≤ c ∨ c ≤ s.su.vacantLast)
    ∃ entries : List ListEntry,
      exec (.list u) s =
        .next { s with rl := s.answeredRl (entries.map .listEntry) (replyTo u .ok entries.length) } ∧
      entries.Pairwise (fun a b => a.channel < b.channel) ∧ entries.length ≤ 16 ∧
      (∀ c : Channel, (∃ x ∈ entries, x.channel = c) ↔
        u.word16 1 ≤ c.val ∧ c.val < u.word16 1 + u.body[3].toNat ∧ ∃ e, s.entry c = some e ∧ visible c e) ∧
      ∀ x ∈ entries, ∃ e, s.entry x.channel = some e ∧ x.port = p ∧ x.tier = e.tier ∧ x.rating = e.rating ∧
        let noFilm : Prop := x.priced = false ∧ x.charge = 0 ∧ x.offPeak = false ∧ x.purchased = false ∧
          x.remaining = 0 ∧ x.previewLeft = 0
        match e.tier with
        | .house => x.entitled = true ∧ noFilm
        | .free => x.entitled = true ∧ noFilm
        | .package n => x.entitled = s.su.packages.getLsbD n.val ∧ noFilm
        | .film title k =>
          match s.purchase title, s.price k with
          | some held, price => x.entitled = true ∧ x.priced = price.isSome ∧ x.charge = 0 ∧ x.offPeak = false ∧
              x.purchased = true ∧ x.remaining = held.windowEnd - s.su.clock ∧ x.previewLeft = 0
          | none, none => x.entitled = false ∧ noFilm
          | none, some price => x.entitled = false ∧ x.priced = true ∧ x.charge = price.charge s.su.clock ∧
              x.offPeak = price.isOffPeak s.su.clock ∧ x.purchased = false ∧ x.remaining = 0 ∧
              x.previewLeft = price.preview - ((s.previewRecord title).map (·.seconds)).getD 0

/-! ## The room link -/

/-- R164, R167: LINK_UNIT_SENT begins the oldest unit of the transmit list; a reply that leaves lowers the count of
unanswered requests, and when that opens the receive direction the request held back longest is taken. That the link takes
up a unit only here, that held units wait in RL's record, and the count `ahead`, are the model's choices
(notes/assumptions/6.md, 7.md, 29.md). -/
def Obligations.LinkUnitLeaves : Prop :=
  ∀ (s : State),
    let left (x : LinkUnit) (rest : List LinkUnit) (held : List Unit96) : State :=
      let unanswered := if x.isReply = true then s.rl.unanswered - 1 else s.rl.unanswered
      { s with rl := { transmit := rest, sending := some x, unanswered := unanswered, held := held, ahead := s.rl.ahead - 1 } }
    (s.rl.transmit = [] → exec .linkUnitSent s = .next { s with rl := { s.rl with sending := none } }) ∧
    ∀ x rest, s.rl.transmit = x :: rest →
      (s.rl.held = [] → exec .linkUnitSent s = .next (left x rest [])) ∧
      (x.isReply = false → 8 ≤ s.rl.unanswered → exec .linkUnitSent s = .next (left x rest s.rl.held)) ∧
      ∀ u us c, s.rl.held = u :: us → x.isReply = true → s.rl.unanswered = 8 → c ∈ requestRows u → c.wellFormed = true →
        exec .linkUnitSent s = exec c (left x rest us)

/-- R164, R165, R175: a request that fails RL's check is answered BAD_REQUEST and changes nothing else; while 8 requests
are unanswered every request unit is held back (notes/assumptions/7.md). The reply of a request that names a port echoes
its port byte (notes/assumptions/19.md). -/
def Obligations.RequestsAreChecked : Prop :=
  ∀ (u : Unit96) (s : State) (c : Instr), c ∈ requestRows u → c.wellFormed = true →
    let badPort : Prop := 3 < u.header[1].toNat
    let badChannel : Prop := 255 < u.word16 1
    let badPin (n : Nat) : Prop := 8 < (u.byte n).toNat ∨ ∃ i, i < (u.byte n).toNat ∧ 9 < (u.byte (n + 1 + i)).toNat
    let fails : Prop := match c with
      | .unknownRequestKind _ => True
      | .tune _ => badPort ∨ badChannel
      | .off _ => badPort
      | .buy _ => badPort ∨ badChannel
      | .cancel _ => badPort
      | .pinUnlock _ => badPort ∨ badPin 3
      | .pinSet _ => badPin 1 ∨ badPin 10
      | .ceiling _ => badPin 2
      | .relock _ => badPort
      | .list _ => badPort ∨ badChannel ∨ u.body[3].toNat = 0 ∨ 16 < u.body[3].toNat
      | .queryPort _ => badPort
      | _ => False
    (8 ≤ s.rl.unanswered → exec c s = .next { s with rl := { s.rl with held := s.rl.held ++ [u] } }) ∧
    (s.rl.unanswered < 8 → fails →
      exec c s = .next { s with rl := s.answeredRl [] (replyTo u .badRequest 0) })

/-! ## Laws that every step keeps -/

/-- Every law of Sys2Proof/Safety.lean holds right after reset. -/
def Obligations.ResetMeetsTheLaws : Prop :=
  State.reset.PreviewLaw ∧ State.reset.ReserveLaw ∧ State.reset.bq.SequenceLaw ∧ State.reset.MoneyLaw ∧
    State.reset.LockLaw ∧ State.reset.PortLaw ∧ State.reset.StreamLaw ∧ State.reset.TimerLaw ∧
    State.reset.ks.StoreLaw ∧ State.reset.SlotLaw ∧ State.reset.TableLaw ∧ State.reset.DueLaw ∧
    State.reset.SilenceLaw ∧ State.reset.fi.ReturnLaw ∧ State.reset.rl.RequestLaw ∧ State.reset.CounterLaw

/-- Every step keeps the bounds of the links and the counters: R19 (waiting return units), R164 (unanswered requests as
many as replies still to leave, at most 8), R11 and R132 (the silence count and the silent purchases), and the width of the
diagnostic counters (00_scope, "Numbers"). -/
def Obligations.StepsKeepLinksAndCounters : Prop :=
  ∀ s t : State, step s = .next t →
    (s.fi.ReturnLaw → t.fi.ReturnLaw) ∧ (s.rl.RequestLaw → t.rl.RequestLaw) ∧ (s.SilenceLaw → t.SilenceLaw) ∧
    (s.CounterLaw → t.CounterLaw)

/-- Every step keeps R153's reserve, with what it is derived from (R125, R154, R155); R152's consecutive sequence numbers;
and R6: spend and cap within range, the charges of the open purchases covered by spend, and no open purchase outside
OCCUPIED. -/
def Obligations.StepsKeepTheQueueAndTheMoney : Prop :=
  ∀ s t : State, step s = .next t →
    (s.ReserveLaw → t.ReserveLaw) ∧ (s.bq.SequenceLaw → t.bq.SequenceLaw) ∧ (s.MoneyLaw → t.MoneyLaw)

/-- Every step keeps R105 and R113: failures below the budget outside a lockout and 0 during one, and the PIN's shape. -/
def Obligations.StepsKeepTheLock : Prop :=
  ∀ s t : State, step s = .next t → s.LockLaw → t.LockLaw

/-- Every step keeps the two laws of R88 and the alert's (R100): no port plays or previews what it may not, and each port
is in OFF or ALERT exactly as the alert demands; and R96's bounds of the Preview List. -/
def Obligations.StepsKeepThePorts : Prop :=
  ∀ s t : State, step s = .next t → (s.PortLaw → t.PortLaw) ∧ (s.PreviewLaw → t.PreviewLaw)

/-- Every step keeps R23 and R82, the resolved stream of every active port being the one its service gives, in states where
R88's laws hold; and R90, R91 and R93, the ranges of the timers. -/
def Obligations.StepsKeepStreamsAndTimers : Prop :=
  ∀ s t : State, step s = .next t → (s.PortLaw → s.StreamLaw → t.StreamLaw) ∧ (s.TimerLaw → t.TimerLaw)

/-- Every step keeps R51, R53 and R55: each entry of the key store stands in its set, with a valid phase, and no group is
held twice; and R63's law of the arrival slot. -/
def Obligations.StepsKeepTheKeyStore : Prop :=
  ∀ s t : State, step s = .next t → s.ks.StoreLaw → t.ks.StoreLaw ∧ (s.SlotLaw → t.SlotLaw)

/-- Every step keeps the ranges of the tables and of the burst state (R22, R32, R36, R41), and R10: every registered event
lies ahead of the clock. -/
def Obligations.StepsKeepTablesAndDueTimes : Prop :=
  ∀ s t : State, step s = .next t → s.TableLaw → t.TableLaw ∧ (s.ks.StoreLaw → s.DueLaw → t.DueLaw)
end

