-- ==== Sys2Proof/Laws/State.lean ====
section
/-! SUPPORT. One lemma for each field and each plain update of the state, true by definition, so that no later proof
unfolds a record update. -/

namespace Sys2Proof.Machine

variable (s : State)

/-! ## State.setPort -/

@[simp] theorem State.setPort_su (p : Port) (r : PortRecord) : (s.setPort p r).su = s.su := rfl
@[simp] theorem State.setPort_fi (p : Port) (r : PortRecord) : (s.setPort p r).fi = s.fi := rfl
@[simp] theorem State.setPort_sf (p : Port) (r : PortRecord) : (s.setPort p r).sf = s.sf := rfl
@[simp] theorem State.setPort_md (p : Port) (r : PortRecord) : (s.setPort p r).md = s.md := rfl
@[simp] theorem State.setPort_tm (p : Port) (r : PortRecord) : (s.setPort p r).tm = s.tm := rfl
@[simp] theorem State.setPort_ks (p : Port) (r : PortRecord) : (s.setPort p r).ks = s.ks := rfl
@[simp] theorem State.setPort_lu (p : Port) (r : PortRecord) : (s.setPort p r).lu = s.lu := rfl
@[simp] theorem State.setPort_pu (p : Port) (r : PortRecord) : (s.setPort p r).pu = s.pu := rfl
@[simp] theorem State.setPort_bq (p : Port) (r : PortRecord) : (s.setPort p r).bq = s.bq := rfl
@[simp] theorem State.setPort_rl (p : Port) (r : PortRecord) : (s.setPort p r).rl = s.rl := rfl
@[simp] theorem State.setPort_room (p : Port) (r : PortRecord) : (s.setPort p r).room = s.room := rfl
@[simp] theorem State.setPort_choices (p : Port) (r : PortRecord) : (s.setPort p r).choices = s.choices := rfl
@[simp] theorem State.setPort_pending (p : Port) (r : PortRecord) : (s.setPort p r).pending = s.pending := rfl

/-! ## State.setUnlock -/

@[simp] theorem State.setUnlock_su (p : Port) (t : Option Nat) : (s.setUnlock p t).su = s.su := rfl
@[simp] theorem State.setUnlock_fi (p : Port) (t : Option Nat) : (s.setUnlock p t).fi = s.fi := rfl
@[simp] theorem State.setUnlock_sf (p : Port) (t : Option Nat) : (s.setUnlock p t).sf = s.sf := rfl
@[simp] theorem State.setUnlock_md (p : Port) (t : Option Nat) : (s.setUnlock p t).md = s.md := rfl
@[simp] theorem State.setUnlock_tm (p : Port) (t : Option Nat) : (s.setUnlock p t).tm = s.tm := rfl
@[simp] theorem State.setUnlock_ks (p : Port) (t : Option Nat) : (s.setUnlock p t).ks = s.ks := rfl
@[simp] theorem State.setUnlock_pc (p : Port) (t : Option Nat) : (s.setUnlock p t).pc = s.pc := rfl
@[simp] theorem State.setUnlock_pu (p : Port) (t : Option Nat) : (s.setUnlock p t).pu = s.pu := rfl
@[simp] theorem State.setUnlock_bq (p : Port) (t : Option Nat) : (s.setUnlock p t).bq = s.bq := rfl
@[simp] theorem State.setUnlock_rl (p : Port) (t : Option Nat) : (s.setUnlock p t).rl = s.rl := rfl
@[simp] theorem State.setUnlock_room (p : Port) (t : Option Nat) : (s.setUnlock p t).room = s.room := rfl
@[simp] theorem State.setUnlock_choices (p : Port) (t : Option Nat) : (s.setUnlock p t).choices = s.choices := rfl
@[simp] theorem State.setUnlock_pending (p : Port) (t : Option Nat) : (s.setUnlock p t).pending = s.pending := rfl

/-! ## State.send -/

@[simp] theorem State.send_su (u : LinkUnit) : (s.send u).su = s.su := rfl
@[simp] theorem State.send_fi (u : LinkUnit) : (s.send u).fi = s.fi := rfl
@[simp] theorem State.send_sf (u : LinkUnit) : (s.send u).sf = s.sf := rfl
@[simp] theorem State.send_md (u : LinkUnit) : (s.send u).md = s.md := rfl
@[simp] theorem State.send_tm (u : LinkUnit) : (s.send u).tm = s.tm := rfl
@[simp] theorem State.send_ks (u : LinkUnit) : (s.send u).ks = s.ks := rfl
@[simp] theorem State.send_pc (u : LinkUnit) : (s.send u).pc = s.pc := rfl
@[simp] theorem State.send_lu (u : LinkUnit) : (s.send u).lu = s.lu := rfl
@[simp] theorem State.send_pu (u : LinkUnit) : (s.send u).pu = s.pu := rfl
@[simp] theorem State.send_bq (u : LinkUnit) : (s.send u).bq = s.bq := rfl
@[simp] theorem State.send_room (u : LinkUnit) : (s.send u).room = s.room := rfl
@[simp] theorem State.send_choices (u : LinkUnit) : (s.send u).choices = s.choices := rfl
@[simp] theorem State.send_pending (u : LinkUnit) : (s.send u).pending = s.pending := rfl

/-! ## State.afterArranging -/

@[simp] theorem State.afterArranging_su (test : Port → Bool) : (s.afterArranging test).su = s.su := rfl
@[simp] theorem State.afterArranging_fi (test : Port → Bool) : (s.afterArranging test).fi = s.fi := rfl
@[simp] theorem State.afterArranging_sf (test : Port → Bool) : (s.afterArranging test).sf = s.sf := rfl
@[simp] theorem State.afterArranging_md (test : Port → Bool) : (s.afterArranging test).md = s.md := rfl
@[simp] theorem State.afterArranging_tm (test : Port → Bool) : (s.afterArranging test).tm = s.tm := rfl
@[simp] theorem State.afterArranging_ks (test : Port → Bool) : (s.afterArranging test).ks = s.ks := rfl
@[simp] theorem State.afterArranging_pc (test : Port → Bool) : (s.afterArranging test).pc = s.pc := rfl
@[simp] theorem State.afterArranging_lu (test : Port → Bool) : (s.afterArranging test).lu = s.lu := rfl
@[simp] theorem State.afterArranging_pu (test : Port → Bool) : (s.afterArranging test).pu = s.pu := rfl
@[simp] theorem State.afterArranging_bq (test : Port → Bool) : (s.afterArranging test).bq = s.bq := rfl
@[simp] theorem State.afterArranging_rl (test : Port → Bool) : (s.afterArranging test).rl = s.rl := rfl
@[simp] theorem State.afterArranging_room (test : Port → Bool) : (s.afterArranging test).room = s.room := rfl
@[simp] theorem State.afterArranging_pending (test : Port → Bool) : (s.afterArranging test).pending = s.pending := rfl

/-! ## State.refuse -/

@[simp] theorem State.refuse_su (u : Unit96) (r : RefusalReason) : (s.refuse u r).su = s.su := rfl
@[simp] theorem State.refuse_fi (u : Unit96) (r : RefusalReason) : (s.refuse u r).fi = s.fi := rfl
@[simp] theorem State.refuse_sf (u : Unit96) (r : RefusalReason) : (s.refuse u r).sf = s.sf := rfl
@[simp] theorem State.refuse_tm (u : Unit96) (r : RefusalReason) : (s.refuse u r).tm = s.tm := rfl
@[simp] theorem State.refuse_ks (u : Unit96) (r : RefusalReason) : (s.refuse u r).ks = s.ks := rfl
@[simp] theorem State.refuse_pc (u : Unit96) (r : RefusalReason) : (s.refuse u r).pc = s.pc := rfl
@[simp] theorem State.refuse_lu (u : Unit96) (r : RefusalReason) : (s.refuse u r).lu = s.lu := rfl
@[simp] theorem State.refuse_pu (u : Unit96) (r : RefusalReason) : (s.refuse u r).pu = s.pu := rfl
@[simp] theorem State.refuse_bq (u : Unit96) (r : RefusalReason) : (s.refuse u r).bq = s.bq := rfl
@[simp] theorem State.refuse_rl (u : Unit96) (r : RefusalReason) : (s.refuse u r).rl = s.rl := rfl
@[simp] theorem State.refuse_room (u : Unit96) (r : RefusalReason) : (s.refuse u r).room = s.room := rfl
@[simp] theorem State.refuse_choices (u : Unit96) (r : RefusalReason) : (s.refuse u r).choices = s.choices := rfl
@[simp] theorem State.refuse_pending (u : Unit96) (r : RefusalReason) : (s.refuse u r).pending = s.pending := rfl

/-! ## State.failCheck -/

@[simp] theorem State.failCheck_su (u : Unit96) : (s.failCheck u).su = s.su := rfl
@[simp] theorem State.failCheck_fi (u : Unit96) : (s.failCheck u).fi = s.fi := rfl
@[simp] theorem State.failCheck_sf (u : Unit96) : (s.failCheck u).sf = s.sf := rfl
@[simp] theorem State.failCheck_tm (u : Unit96) : (s.failCheck u).tm = s.tm := rfl
@[simp] theorem State.failCheck_ks (u : Unit96) : (s.failCheck u).ks = s.ks := rfl
@[simp] theorem State.failCheck_pc (u : Unit96) : (s.failCheck u).pc = s.pc := rfl
@[simp] theorem State.failCheck_lu (u : Unit96) : (s.failCheck u).lu = s.lu := rfl
@[simp] theorem State.failCheck_pu (u : Unit96) : (s.failCheck u).pu = s.pu := rfl
@[simp] theorem State.failCheck_bq (u : Unit96) : (s.failCheck u).bq = s.bq := rfl
@[simp] theorem State.failCheck_rl (u : Unit96) : (s.failCheck u).rl = s.rl := rfl
@[simp] theorem State.failCheck_room (u : Unit96) : (s.failCheck u).room = s.room := rfl
@[simp] theorem State.failCheck_choices (u : Unit96) : (s.failCheck u).choices = s.choices := rfl
@[simp] theorem State.failCheck_pending (u : Unit96) : (s.failCheck u).pending = s.pending := rfl

/-! ## State.closeBurst -/

@[simp] theorem State.closeBurst_su : (s.closeBurst).su = s.su := rfl
@[simp] theorem State.closeBurst_fi : (s.closeBurst).fi = s.fi := rfl
@[simp] theorem State.closeBurst_sf : (s.closeBurst).sf = s.sf := rfl
@[simp] theorem State.closeBurst_tm : (s.closeBurst).tm = s.tm := rfl
@[simp] theorem State.closeBurst_ks : (s.closeBurst).ks = s.ks := rfl
@[simp] theorem State.closeBurst_pc : (s.closeBurst).pc = s.pc := rfl
@[simp] theorem State.closeBurst_lu : (s.closeBurst).lu = s.lu := rfl
@[simp] theorem State.closeBurst_pu : (s.closeBurst).pu = s.pu := rfl
@[simp] theorem State.closeBurst_bq : (s.closeBurst).bq = s.bq := rfl
@[simp] theorem State.closeBurst_rl : (s.closeBurst).rl = s.rl := rfl
@[simp] theorem State.closeBurst_room : (s.closeBurst).room = s.room := rfl
@[simp] theorem State.closeBurst_choices : (s.closeBurst).choices = s.choices := rfl
@[simp] theorem State.closeBurst_pending : (s.closeBurst).pending = s.pending := rfl

/-! ## State.dropEntry -/

@[simp] theorem State.dropEntry_su : (s.dropEntry).su = s.su := rfl
@[simp] theorem State.dropEntry_fi : (s.dropEntry).fi = s.fi := rfl
@[simp] theorem State.dropEntry_sf : (s.dropEntry).sf = s.sf := rfl
@[simp] theorem State.dropEntry_tm : (s.dropEntry).tm = s.tm := rfl
@[simp] theorem State.dropEntry_ks : (s.dropEntry).ks = s.ks := rfl
@[simp] theorem State.dropEntry_pc : (s.dropEntry).pc = s.pc := rfl
@[simp] theorem State.dropEntry_lu : (s.dropEntry).lu = s.lu := rfl
@[simp] theorem State.dropEntry_pu : (s.dropEntry).pu = s.pu := rfl
@[simp] theorem State.dropEntry_bq : (s.dropEntry).bq = s.bq := rfl
@[simp] theorem State.dropEntry_rl : (s.dropEntry).rl = s.rl := rfl
@[simp] theorem State.dropEntry_room : (s.dropEntry).room = s.room := rfl
@[simp] theorem State.dropEntry_choices : (s.dropEntry).choices = s.choices := rfl
@[simp] theorem State.dropEntry_pending : (s.dropEntry).pending = s.pending := rfl

/-! ## State.setAlert -/

@[simp] theorem State.setAlert_fi (a : Option Alert) : (s.setAlert a).fi = s.fi := rfl
@[simp] theorem State.setAlert_sf (a : Option Alert) : (s.setAlert a).sf = s.sf := rfl
@[simp] theorem State.setAlert_md (a : Option Alert) : (s.setAlert a).md = s.md := rfl
@[simp] theorem State.setAlert_tm (a : Option Alert) : (s.setAlert a).tm = s.tm := rfl
@[simp] theorem State.setAlert_ks (a : Option Alert) : (s.setAlert a).ks = s.ks := rfl
@[simp] theorem State.setAlert_pc (a : Option Alert) : (s.setAlert a).pc = s.pc := rfl
@[simp] theorem State.setAlert_lu (a : Option Alert) : (s.setAlert a).lu = s.lu := rfl
@[simp] theorem State.setAlert_pu (a : Option Alert) : (s.setAlert a).pu = s.pu := rfl
@[simp] theorem State.setAlert_bq (a : Option Alert) : (s.setAlert a).bq = s.bq := rfl
@[simp] theorem State.setAlert_rl (a : Option Alert) : (s.setAlert a).rl = s.rl := rfl
@[simp] theorem State.setAlert_room (a : Option Alert) : (s.setAlert a).room = s.room := rfl
@[simp] theorem State.setAlert_choices (a : Option Alert) : (s.setAlert a).choices = s.choices := rfl
@[simp] theorem State.setAlert_pending (a : Option Alert) : (s.setAlert a).pending = s.pending := rfl

/-! ## State.raiseSpend -/

@[simp] theorem State.raiseSpend_fi (n : Nat) : (s.raiseSpend n).fi = s.fi := rfl
@[simp] theorem State.raiseSpend_sf (n : Nat) : (s.raiseSpend n).sf = s.sf := rfl
@[simp] theorem State.raiseSpend_md (n : Nat) : (s.raiseSpend n).md = s.md := rfl
@[simp] theorem State.raiseSpend_tm (n : Nat) : (s.raiseSpend n).tm = s.tm := rfl
@[simp] theorem State.raiseSpend_ks (n : Nat) : (s.raiseSpend n).ks = s.ks := rfl
@[simp] theorem State.raiseSpend_pc (n : Nat) : (s.raiseSpend n).pc = s.pc := rfl
@[simp] theorem State.raiseSpend_lu (n : Nat) : (s.raiseSpend n).lu = s.lu := rfl
@[simp] theorem State.raiseSpend_pu (n : Nat) : (s.raiseSpend n).pu = s.pu := rfl
@[simp] theorem State.raiseSpend_bq (n : Nat) : (s.raiseSpend n).bq = s.bq := rfl
@[simp] theorem State.raiseSpend_rl (n : Nat) : (s.raiseSpend n).rl = s.rl := rfl
@[simp] theorem State.raiseSpend_room (n : Nat) : (s.raiseSpend n).room = s.room := rfl
@[simp] theorem State.raiseSpend_choices (n : Nat) : (s.raiseSpend n).choices = s.choices := rfl
@[simp] theorem State.raiseSpend_pending (n : Nat) : (s.raiseSpend n).pending = s.pending := rfl

/-! ## State.lowerSpend -/

@[simp] theorem State.lowerSpend_fi (n : Nat) : (s.lowerSpend n).fi = s.fi := rfl
@[simp] theorem State.lowerSpend_sf (n : Nat) : (s.lowerSpend n).sf = s.sf := rfl
@[simp] theorem State.lowerSpend_md (n : Nat) : (s.lowerSpend n).md = s.md := rfl
@[simp] theorem State.lowerSpend_tm (n : Nat) : (s.lowerSpend n).tm = s.tm := rfl
@[simp] theorem State.lowerSpend_ks (n : Nat) : (s.lowerSpend n).ks = s.ks := rfl
@[simp] theorem State.lowerSpend_pc (n : Nat) : (s.lowerSpend n).pc = s.pc := rfl
@[simp] theorem State.lowerSpend_lu (n : Nat) : (s.lowerSpend n).lu = s.lu := rfl
@[simp] theorem State.lowerSpend_pu (n : Nat) : (s.lowerSpend n).pu = s.pu := rfl
@[simp] theorem State.lowerSpend_bq (n : Nat) : (s.lowerSpend n).bq = s.bq := rfl
@[simp] theorem State.lowerSpend_rl (n : Nat) : (s.lowerSpend n).rl = s.rl := rfl
@[simp] theorem State.lowerSpend_room (n : Nat) : (s.lowerSpend n).room = s.room := rfl
@[simp] theorem State.lowerSpend_choices (n : Nat) : (s.lowerSpend n).choices = s.choices := rfl
@[simp] theorem State.lowerSpend_pending (n : Nat) : (s.lowerSpend n).pending = s.pending := rfl

/-! ## State.bill -/

@[simp] theorem State.bill_su (e : Purchase) (k : RecordKind) (n t : Nat) : (s.bill e k n t).su = s.su := rfl
@[simp] theorem State.bill_fi (e : Purchase) (k : RecordKind) (n t : Nat) : (s.bill e k n t).fi = s.fi := rfl
@[simp] theorem State.bill_sf (e : Purchase) (k : RecordKind) (n t : Nat) : (s.bill e k n t).sf = s.sf := rfl
@[simp] theorem State.bill_md (e : Purchase) (k : RecordKind) (n t : Nat) : (s.bill e k n t).md = s.md := rfl
@[simp] theorem State.bill_tm (e : Purchase) (k : RecordKind) (n t : Nat) : (s.bill e k n t).tm = s.tm := rfl
@[simp] theorem State.bill_ks (e : Purchase) (k : RecordKind) (n t : Nat) : (s.bill e k n t).ks = s.ks := rfl
@[simp] theorem State.bill_pc (e : Purchase) (k : RecordKind) (n t : Nat) : (s.bill e k n t).pc = s.pc := rfl
@[simp] theorem State.bill_lu (e : Purchase) (k : RecordKind) (n t : Nat) : (s.bill e k n t).lu = s.lu := rfl
@[simp] theorem State.bill_pu (e : Purchase) (k : RecordKind) (n t : Nat) : (s.bill e k n t).pu = s.pu := rfl
@[simp] theorem State.bill_rl (e : Purchase) (k : RecordKind) (n t : Nat) : (s.bill e k n t).rl = s.rl := rfl
@[simp] theorem State.bill_room (e : Purchase) (k : RecordKind) (n t : Nat) : (s.bill e k n t).room = s.room := rfl
@[simp] theorem State.bill_choices (e : Purchase) (k : RecordKind) (n t : Nat) : (s.bill e k n t).choices = s.choices := rfl
@[simp] theorem State.bill_pending (e : Purchase) (k : RecordKind) (n t : Nat) : (s.bill e k n t).pending = s.pending := rfl

/-! ## State.removePurchase -/

@[simp] theorem State.removePurchase_su (title : Nat) : (s.removePurchase title).su = s.su := rfl
@[simp] theorem State.removePurchase_fi (title : Nat) : (s.removePurchase title).fi = s.fi := rfl
@[simp] theorem State.removePurchase_sf (title : Nat) : (s.removePurchase title).sf = s.sf := rfl
@[simp] theorem State.removePurchase_md (title : Nat) : (s.removePurchase title).md = s.md := rfl
@[simp] theorem State.removePurchase_tm (title : Nat) : (s.removePurchase title).tm = s.tm := rfl
@[simp] theorem State.removePurchase_ks (title : Nat) : (s.removePurchase title).ks = s.ks := rfl
@[simp] theorem State.removePurchase_pc (title : Nat) : (s.removePurchase title).pc = s.pc := rfl
@[simp] theorem State.removePurchase_lu (title : Nat) : (s.removePurchase title).lu = s.lu := rfl
@[simp] theorem State.removePurchase_bq (title : Nat) : (s.removePurchase title).bq = s.bq := rfl
@[simp] theorem State.removePurchase_rl (title : Nat) : (s.removePurchase title).rl = s.rl := rfl
@[simp] theorem State.removePurchase_room (title : Nat) : (s.removePurchase title).room = s.room := rfl
@[simp] theorem State.removePurchase_choices (title : Nat) : (s.removePurchase title).choices = s.choices := rfl
@[simp] theorem State.removePurchase_pending (title : Nat) : (s.removePurchase title).pending = s.pending := rfl

/-! ## State.accrueOutage -/

@[simp] theorem State.accrueOutage_su : (s.accrueOutage).su = s.su := rfl
@[simp] theorem State.accrueOutage_fi : (s.accrueOutage).fi = s.fi := rfl
@[simp] theorem State.accrueOutage_sf : (s.accrueOutage).sf = s.sf := rfl
@[simp] theorem State.accrueOutage_md : (s.accrueOutage).md = s.md := rfl
@[simp] theorem State.accrueOutage_tm : (s.accrueOutage).tm = s.tm := rfl
@[simp] theorem State.accrueOutage_ks : (s.accrueOutage).ks = s.ks := rfl
@[simp] theorem State.accrueOutage_pc : (s.accrueOutage).pc = s.pc := rfl
@[simp] theorem State.accrueOutage_lu : (s.accrueOutage).lu = s.lu := rfl
@[simp] theorem State.accrueOutage_bq : (s.accrueOutage).bq = s.bq := rfl
@[simp] theorem State.accrueOutage_rl : (s.accrueOutage).rl = s.rl := rfl
@[simp] theorem State.accrueOutage_room : (s.accrueOutage).room = s.room := rfl
@[simp] theorem State.accrueOutage_choices : (s.accrueOutage).choices = s.choices := rfl
@[simp] theorem State.accrueOutage_pending : (s.accrueOutage).pending = s.pending := rfl

/-! ## State.countPreview -/

@[simp] theorem State.countPreview_su : (s.countPreview).su = s.su := rfl
@[simp] theorem State.countPreview_fi : (s.countPreview).fi = s.fi := rfl
@[simp] theorem State.countPreview_sf : (s.countPreview).sf = s.sf := rfl
@[simp] theorem State.countPreview_md : (s.countPreview).md = s.md := rfl
@[simp] theorem State.countPreview_tm : (s.countPreview).tm = s.tm := rfl
@[simp] theorem State.countPreview_ks : (s.countPreview).ks = s.ks := rfl
@[simp] theorem State.countPreview_lu : (s.countPreview).lu = s.lu := rfl
@[simp] theorem State.countPreview_pu : (s.countPreview).pu = s.pu := rfl
@[simp] theorem State.countPreview_bq : (s.countPreview).bq = s.bq := rfl
@[simp] theorem State.countPreview_rl : (s.countPreview).rl = s.rl := rfl
@[simp] theorem State.countPreview_room : (s.countPreview).room = s.room := rfl
@[simp] theorem State.countPreview_choices : (s.countPreview).choices = s.choices := rfl
@[simp] theorem State.countPreview_pending : (s.countPreview).pending = s.pending := rfl

/-! ## State.writePrice -/

@[simp] theorem State.writePrice_su (k : PriceCode) (e : Option PriceEntry) : (s.writePrice k e).su = s.su := rfl
@[simp] theorem State.writePrice_fi (k : PriceCode) (e : Option PriceEntry) : (s.writePrice k e).fi = s.fi := rfl
@[simp] theorem State.writePrice_sf (k : PriceCode) (e : Option PriceEntry) : (s.writePrice k e).sf = s.sf := rfl
@[simp] theorem State.writePrice_md (k : PriceCode) (e : Option PriceEntry) : (s.writePrice k e).md = s.md := rfl
@[simp] theorem State.writePrice_ks (k : PriceCode) (e : Option PriceEntry) : (s.writePrice k e).ks = s.ks := rfl
@[simp] theorem State.writePrice_pc (k : PriceCode) (e : Option PriceEntry) : (s.writePrice k e).pc = s.pc := rfl
@[simp] theorem State.writePrice_lu (k : PriceCode) (e : Option PriceEntry) : (s.writePrice k e).lu = s.lu := rfl
@[simp] theorem State.writePrice_pu (k : PriceCode) (e : Option PriceEntry) : (s.writePrice k e).pu = s.pu := rfl
@[simp] theorem State.writePrice_bq (k : PriceCode) (e : Option PriceEntry) : (s.writePrice k e).bq = s.bq := rfl
@[simp] theorem State.writePrice_rl (k : PriceCode) (e : Option PriceEntry) : (s.writePrice k e).rl = s.rl := rfl
@[simp] theorem State.writePrice_room (k : PriceCode) (e : Option PriceEntry) : (s.writePrice k e).room = s.room := rfl
@[simp] theorem State.writePrice_choices (k : PriceCode) (e : Option PriceEntry) : (s.writePrice k e).choices = s.choices := rfl
@[simp] theorem State.writePrice_pending (k : PriceCode) (e : Option PriceEntry) : (s.writePrice k e).pending = s.pending := rfl

/-! ## State.beginReturn -/

@[simp] theorem State.beginReturn_su (r : ReturnUnit) : (s.beginReturn r).su = s.su := rfl
@[simp] theorem State.beginReturn_sf (r : ReturnUnit) : (s.beginReturn r).sf = s.sf := rfl
@[simp] theorem State.beginReturn_md (r : ReturnUnit) : (s.beginReturn r).md = s.md := rfl
@[simp] theorem State.beginReturn_tm (r : ReturnUnit) : (s.beginReturn r).tm = s.tm := rfl
@[simp] theorem State.beginReturn_ks (r : ReturnUnit) : (s.beginReturn r).ks = s.ks := rfl
@[simp] theorem State.beginReturn_pc (r : ReturnUnit) : (s.beginReturn r).pc = s.pc := rfl
@[simp] theorem State.beginReturn_lu (r : ReturnUnit) : (s.beginReturn r).lu = s.lu := rfl
@[simp] theorem State.beginReturn_pu (r : ReturnUnit) : (s.beginReturn r).pu = s.pu := rfl
@[simp] theorem State.beginReturn_rl (r : ReturnUnit) : (s.beginReturn r).rl = s.rl := rfl
@[simp] theorem State.beginReturn_room (r : ReturnUnit) : (s.beginReturn r).room = s.room := rfl
@[simp] theorem State.beginReturn_choices (r : ReturnUnit) : (s.beginReturn r).choices = s.choices := rfl
@[simp] theorem State.beginReturn_pending (r : ReturnUnit) : (s.beginReturn r).pending = s.pending := rfl

/-! ## State.countRequest -/

@[simp] theorem State.countRequest_su : (s.countRequest).su = s.su := rfl
@[simp] theorem State.countRequest_fi : (s.countRequest).fi = s.fi := rfl
@[simp] theorem State.countRequest_sf : (s.countRequest).sf = s.sf := rfl
@[simp] theorem State.countRequest_md : (s.countRequest).md = s.md := rfl
@[simp] theorem State.countRequest_tm : (s.countRequest).tm = s.tm := rfl
@[simp] theorem State.countRequest_ks : (s.countRequest).ks = s.ks := rfl
@[simp] theorem State.countRequest_pc : (s.countRequest).pc = s.pc := rfl
@[simp] theorem State.countRequest_lu : (s.countRequest).lu = s.lu := rfl
@[simp] theorem State.countRequest_pu : (s.countRequest).pu = s.pu := rfl
@[simp] theorem State.countRequest_bq : (s.countRequest).bq = s.bq := rfl
@[simp] theorem State.countRequest_room : (s.countRequest).room = s.room := rfl
@[simp] theorem State.countRequest_choices : (s.countRequest).choices = s.choices := rfl
@[simp] theorem State.countRequest_pending : (s.countRequest).pending = s.pending := rfl

/-! ## State.abandon -/

@[simp] theorem State.abandon_su : s.abandon.su = s.su := rfl
@[simp] theorem State.abandon_fi : s.abandon.fi = s.fi := rfl
@[simp] theorem State.abandon_sf : s.abandon.sf = s.sf := rfl
@[simp] theorem State.abandon_md : s.abandon.md = s.md := rfl
@[simp] theorem State.abandon_tm : s.abandon.tm = s.tm := rfl
@[simp] theorem State.abandon_ks : s.abandon.ks = s.ks := rfl
@[simp] theorem State.abandon_pc : s.abandon.pc = s.pc := rfl
@[simp] theorem State.abandon_lu : s.abandon.lu = s.lu := rfl
@[simp] theorem State.abandon_pu : s.abandon.pu = s.pu := rfl
@[simp] theorem State.abandon_bq : s.abandon.bq = s.bq := rfl
@[simp] theorem State.abandon_room : s.abandon.room = s.room := rfl
@[simp] theorem State.abandon_choices : s.abandon.choices = s.choices := rfl
@[simp] theorem State.abandon_pending : s.abandon.pending = s.pending := rfl

/-! ## State.untied -/

@[simp] theorem State.untied_su (event : State → State) : (s.untied event).su = (event s).su := rfl
@[simp] theorem State.untied_fi (event : State → State) : (s.untied event).fi = (event s).fi := rfl
@[simp] theorem State.untied_sf (event : State → State) : (s.untied event).sf = (event s).sf := rfl
@[simp] theorem State.untied_md (event : State → State) : (s.untied event).md = (event s).md := rfl
@[simp] theorem State.untied_tm (event : State → State) : (s.untied event).tm = (event s).tm := rfl
@[simp] theorem State.untied_ks (event : State → State) : (s.untied event).ks = (event s).ks := rfl
@[simp] theorem State.untied_pc (event : State → State) : (s.untied event).pc = (event s).pc := rfl
@[simp] theorem State.untied_lu (event : State → State) : (s.untied event).lu = (event s).lu := rfl
@[simp] theorem State.untied_pu (event : State → State) : (s.untied event).pu = (event s).pu := rfl
@[simp] theorem State.untied_bq (event : State → State) : (s.untied event).bq = (event s).bq := rfl
@[simp] theorem State.untied_room (event : State → State) : (s.untied event).room = (event s).room := rfl
@[simp] theorem State.untied_pending (event : State → State) : (s.untied event).pending = (event s).pending := rfl

/-! ## State.atTail -/

@[simp] theorem State.atTail_su (event : State → State) : (s.atTail event).su = (event s).su := rfl
@[simp] theorem State.atTail_fi (event : State → State) : (s.atTail event).fi = (event s).fi := rfl
@[simp] theorem State.atTail_sf (event : State → State) : (s.atTail event).sf = (event s).sf := rfl
@[simp] theorem State.atTail_md (event : State → State) : (s.atTail event).md = (event s).md := rfl
@[simp] theorem State.atTail_tm (event : State → State) : (s.atTail event).tm = (event s).tm := rfl
@[simp] theorem State.atTail_ks (event : State → State) : (s.atTail event).ks = (event s).ks := rfl
@[simp] theorem State.atTail_pc (event : State → State) : (s.atTail event).pc = (event s).pc := rfl
@[simp] theorem State.atTail_lu (event : State → State) : (s.atTail event).lu = (event s).lu := rfl
@[simp] theorem State.atTail_pu (event : State → State) : (s.atTail event).pu = (event s).pu := rfl
@[simp] theorem State.atTail_bq (event : State → State) : (s.atTail event).bq = (event s).bq := rfl
@[simp] theorem State.atTail_room (event : State → State) : (s.atTail event).room = (event s).room := rfl
@[simp] theorem State.atTail_choices (event : State → State) : (s.atTail event).choices = (event s).choices := rfl
@[simp] theorem State.atTail_pending (event : State → State) : (s.atTail event).pending = (event s).pending := rfl

/-! ## State.fallSilent -/

@[simp] theorem State.fallSilent_fi : (s.fallSilent).fi = s.fi := rfl
@[simp] theorem State.fallSilent_sf : (s.fallSilent).sf = s.sf := rfl
@[simp] theorem State.fallSilent_md : (s.fallSilent).md = s.md := rfl
@[simp] theorem State.fallSilent_tm : (s.fallSilent).tm = s.tm := rfl
@[simp] theorem State.fallSilent_ks : (s.fallSilent).ks = s.ks := rfl
@[simp] theorem State.fallSilent_pc : (s.fallSilent).pc = s.pc := rfl
@[simp] theorem State.fallSilent_lu : (s.fallSilent).lu = s.lu := rfl
@[simp] theorem State.fallSilent_pu : (s.fallSilent).pu = s.pu := rfl
@[simp] theorem State.fallSilent_bq : (s.fallSilent).bq = s.bq := rfl
@[simp] theorem State.fallSilent_rl : (s.fallSilent).rl = s.rl := rfl
@[simp] theorem State.fallSilent_room : (s.fallSilent).room = s.room := rfl
@[simp] theorem State.fallSilent_choices : (s.fallSilent).choices = s.choices := rfl
@[simp] theorem State.fallSilent_pending : (s.fallSilent).pending = s.pending := rfl

/-! ## State.endLockout -/

@[simp] theorem State.endLockout_su (due : Nat) : (s.endLockout due).su = s.su := rfl
@[simp] theorem State.endLockout_fi (due : Nat) : (s.endLockout due).fi = s.fi := rfl
@[simp] theorem State.endLockout_sf (due : Nat) : (s.endLockout due).sf = s.sf := rfl
@[simp] theorem State.endLockout_md (due : Nat) : (s.endLockout due).md = s.md := rfl
@[simp] theorem State.endLockout_tm (due : Nat) : (s.endLockout due).tm = s.tm := rfl
@[simp] theorem State.endLockout_ks (due : Nat) : (s.endLockout due).ks = s.ks := rfl
@[simp] theorem State.endLockout_pc (due : Nat) : (s.endLockout due).pc = s.pc := rfl
@[simp] theorem State.endLockout_pu (due : Nat) : (s.endLockout due).pu = s.pu := rfl
@[simp] theorem State.endLockout_bq (due : Nat) : (s.endLockout due).bq = s.bq := rfl
@[simp] theorem State.endLockout_rl (due : Nat) : (s.endLockout due).rl = s.rl := rfl
@[simp] theorem State.endLockout_room (due : Nat) : (s.endLockout due).room = s.room := rfl
@[simp] theorem State.endLockout_choices (due : Nat) : (s.endLockout due).choices = s.choices := rfl
@[simp] theorem State.endLockout_pending (due : Nat) : (s.endLockout due).pending = s.pending := rfl

/-! ## State.endStrict -/

@[simp] theorem State.endStrict_su : (s.endStrict).su = s.su := rfl
@[simp] theorem State.endStrict_fi : (s.endStrict).fi = s.fi := rfl
@[simp] theorem State.endStrict_sf : (s.endStrict).sf = s.sf := rfl
@[simp] theorem State.endStrict_md : (s.endStrict).md = s.md := rfl
@[simp] theorem State.endStrict_tm : (s.endStrict).tm = s.tm := rfl
@[simp] theorem State.endStrict_ks : (s.endStrict).ks = s.ks := rfl
@[simp] theorem State.endStrict_pc : (s.endStrict).pc = s.pc := rfl
@[simp] theorem State.endStrict_pu : (s.endStrict).pu = s.pu := rfl
@[simp] theorem State.endStrict_bq : (s.endStrict).bq = s.bq := rfl
@[simp] theorem State.endStrict_rl : (s.endStrict).rl = s.rl := rfl
@[simp] theorem State.endStrict_room : (s.endStrict).room = s.room := rfl
@[simp] theorem State.endStrict_choices : (s.endStrict).choices = s.choices := rfl
@[simp] theorem State.endStrict_pending : (s.endStrict).pending = s.pending := rfl

/-! ## What the plain updates write -/

@[simp] theorem State.setPort_ports (p : Port) (r : PortRecord) : (s.setPort p r).pc.ports = s.pc.ports.set p r := rfl
@[simp] theorem State.setPort_previews (p : Port) (r : PortRecord) : (s.setPort p r).pc.previews = s.pc.previews := rfl
@[simp] theorem State.setUnlock_unlocks (p : Port) (t : Option Nat) :
    (s.setUnlock p t).lu = { s.lu with unlocks := s.lu.unlocks.set p t } := rfl
@[simp] theorem State.send_rl (u : LinkUnit) :
    (s.send u).rl = { s.rl with transmit := s.rl.transmit ++ [u] } := rfl
@[simp] theorem State.closeBurst_md : s.closeBurst.md = { s.md with burst := none } := rfl
@[simp] theorem State.setAlert_su (a : Option Alert) : (s.setAlert a).su = { s.su with alert := a } := rfl
@[simp] theorem State.raiseSpend_su (n : Nat) : (s.raiseSpend n).su = { s.su with spend := s.su.spend + n } := rfl
@[simp] theorem State.lowerSpend_su (n : Nat) : (s.lowerSpend n).su = { s.su with spend := s.su.spend - n } := rfl
@[simp] theorem State.removePurchase_pu (title : Nat) :
    (s.removePurchase title).pu = { s.pu with purchases := s.pu.purchases.filter (·.title != title) } := rfl
@[simp] theorem State.countRequest_rl : s.countRequest.rl =
    { s.rl with unanswered := s.rl.unanswered + 1, ahead := s.rl.transmit.length + 1 } := rfl

/-- R82: the record of the port just written. -/
@[simp] theorem State.setPort_port_self (p : Port) (r : PortRecord) : (s.setPort p r).port p = r := by
  simp [State.port, State.setPort]

/-- R82: the records of the other ports stand. -/
theorem State.setPort_port_other {p q : Port} (r : PortRecord) (h : q ≠ p) : (s.setPort p r).port q = s.port q := by
  have : p.val ≠ q.val := fun e => h (Fin.ext e.symm)
  simp [State.port, State.setPort, Vector.getElem_set_ne _ _ this]

/-! ## Readers that a port write or a link unit does not touch -/

@[simp] theorem State.send_port (u : LinkUnit) (p : Port) : (s.send u).port p = s.port p := rfl
@[simp] theorem State.send_entry (u : LinkUnit) (c : Channel) : (s.send u).entry c = s.entry c := rfl
@[simp] theorem State.setPort_entry (p : Port) (r : PortRecord) (c : Channel) : (s.setPort p r).entry c = s.entry c := rfl
@[simp] theorem State.setPort_price (p : Port) (r : PortRecord) (k : PriceCode) : (s.setPort p r).price k = s.price k := rfl
@[simp] theorem State.setPort_titleOn (p : Port) (r : PortRecord) (c : Channel) : (s.setPort p r).titleOn c = s.titleOn c := rfl
@[simp] theorem State.setPort_purchase (p : Port) (r : PortRecord) (t : Nat) : (s.setPort p r).purchase t = s.purchase t := rfl
@[simp] theorem State.setPort_effectiveCeiling (p q : Port) (r : PortRecord) :
    (s.setPort p r).effectiveCeiling q = s.effectiveCeiling q := rfl
@[simp] theorem State.setPort_isOccupied (p : Port) (r : PortRecord) : (s.setPort p r).isOccupied = s.isOccupied := rfl

end Sys2Proof.Machine
end

