-- ==== Sys2Proof/Laws/Frames.lean ====
section
/-! SUPPORT. What the shared port operations can change: the port records, the Preview List, the free choices and
the tail of the transmit list, and nothing else. -/

namespace Sys2Proof.Machine

/-- `t` differs from `s` only in PC's state, the free choices, and notices, blank and programme units added at the transmit list's tail. -/
structure PortsFrame (s t : State) : Prop where
  su      : t.su = s.su
  fi      : t.fi = s.fi
  sf      : t.sf = s.sf
  md      : t.md = s.md
  tm      : t.tm = s.tm
  ks      : t.ks = s.ks
  lu      : t.lu = s.lu
  pu      : t.pu = s.pu
  bq      : t.bq = s.bq
  room    : t.room = s.room
  pending : t.pending = s.pending
  link    : ∃ l : List LinkUnit, (∀ u ∈ l, u.portOf.isSome = true) ∧ t.rl = { s.rl with transmit := s.rl.transmit ++ l }

theorem PortsFrame.refl (s : State) : PortsFrame s s :=
  ⟨rfl, rfl, rfl, rfl, rfl, rfl, rfl, rfl, rfl, rfl, rfl, [], by simp⟩

theorem PortsFrame.trans {s t u : State} (a : PortsFrame s t) (b : PortsFrame t u) : PortsFrame s u := by
  obtain ⟨l, hl, el⟩ := a.link
  obtain ⟨m, hm, em⟩ := b.link
  refine ⟨b.su.trans a.su, b.fi.trans a.fi, b.sf.trans a.sf, b.md.trans a.md, b.tm.trans a.tm, b.ks.trans a.ks,
    b.lu.trans a.lu, b.pu.trans a.pu, b.bq.trans a.bq, b.room.trans a.room, b.pending.trans a.pending, l ++ m, ?_, ?_⟩
  · intro u hu
    rcases List.mem_append.mp hu with h | h
    · exact hl u h
    · exact hm u h
  · rw [em, el]; simp

/-- A fold of operations that each keep the frame keeps it. -/
theorem PortsFrame.foldl {α : Type} {f : State → α → State} (h : ∀ s a, PortsFrame s (f s a)) :
    ∀ (l : List α) (s : State), PortsFrame s (l.foldl f s)
  | [], s => PortsFrame.refl s
  | a :: l, s => (h s a).trans (PortsFrame.foldl h l (f s a))

theorem State.afterArranging_ports (s : State) (test : Port → Bool) : PortsFrame s (s.afterArranging test) :=
  ⟨rfl, rfl, rfl, rfl, rfl, rfl, rfl, rfl, rfl, rfl, rfl, [], by simp [State.afterArranging]⟩

theorem State.setPort_portsFrame (s : State) (p : Port) (r : PortRecord) : PortsFrame s (s.setPort p r) :=
  ⟨rfl, rfl, rfl, rfl, rfl, rfl, rfl, rfl, rfl, rfl, rfl, [], by simp⟩

theorem State.send_portsFrame (s : State) (u : LinkUnit) (h : u.portOf.isSome = true) : PortsFrame s (s.send u) :=
  ⟨rfl, rfl, rfl, rfl, rfl, rfl, rfl, rfl, rfl, rfl, rfl, [u], by simpa using h, by simp⟩

/-- R167: a programme or blank unit joins the list or does not. -/
theorem State.sendData_portsFrame (s : State) (u : LinkUnit) (h : u.portOf.isSome = true) : PortsFrame s (s.sendData u) := by
  unfold State.sendData
  split
  · exact s.send_portsFrame u h
  · exact PortsFrame.refl s

/-- R94: one notice or none. -/
theorem State.notifyChange_portsFrame (s before : State) (p : Port) : PortsFrame s (s.notifyChange before p) := by
  unfold State.notifyChange
  split
  · exact PortsFrame.refl s
  · exact s.send_portsFrame _ rfl

@[simp] theorem State.sendData_pc (s : State) (u : LinkUnit) : (s.sendData u).pc = s.pc := by
  unfold State.sendData; split <;> rfl

@[simp] theorem State.notifyChange_pc (s before : State) (p : Port) : (s.notifyChange before p).pc = s.pc := by
  unfold State.notifyChange; split <;> rfl

theorem State.joinPreview_ports (s : State) (r : Preview) : PortsFrame s (s.joinPreview r) :=
  ⟨rfl, rfl, rfl, rfl, rfl, rfl, rfl, rfl, rfl, rfl, rfl, [], by simp [State.joinPreview]⟩

theorem State.startPreview_ports (s : State) (c : Channel) : PortsFrame s (s.startPreview c) := by
  unfold State.startPreview
  split
  · exact PortsFrame.refl s
  · split
    · exact PortsFrame.refl s
    · exact s.joinPreview_ports _

theorem State.takeUpPreview_ports (s : State) (t n : Nat) : PortsFrame s (s.takeUpPreview t n) := by
  unfold State.takeUpPreview
  split
  · exact ⟨rfl, rfl, rfl, rfl, rfl, rfl, rfl, rfl, rfl, rfl, rfl, [], by simp⟩
  · exact s.joinPreview_ports _

/-- R167: a unit that is neither a listing entry nor a reply. -/
theorem State.join_portsFrame (s : State) (u : LinkUnit) (h : u.portOf.isSome = true) : PortsFrame s (s.join u) := by
  cases u with
  | programme => exact s.sendData_portsFrame _ h
  | blank => exact s.sendData_portsFrame _ h
  | notice => exact s.send_portsFrame _ h
  | listEntry => exact s.send_portsFrame _ h
  | reply => exact s.send_portsFrame _ h

@[simp] theorem State.join_pc (s : State) (u : LinkUnit) : (s.join u).pc = s.pc := by
  cases u <;> simp [State.join]

/-- What stands in two lists in one is what stood in either. -/
theorem mem_interleave {α : Type} {x : α} : ∀ (xs ys : List α) (c : Choices), x ∈ (interleave xs ys c).1 ↔ x ∈ xs ∨ x ∈ ys
  | [], ys, _ => by simp [interleave]
  | a :: xs, [], _ => by simp [interleave]
  | a :: xs, b :: ys, c => by
    have h := mem_interleave (x := x) xs ((b :: ys).drop (drawFrom ((b :: ys).length + 1) c).1)
      (drawFrom ((b :: ys).length + 1) c).2
    have split : x ∈ b :: ys ↔ x ∈ (b :: ys).take (drawFrom ((b :: ys).length + 1) c).1 ∨
        x ∈ (b :: ys).drop (drawFrom ((b :: ys).length + 1) c).1 := by
      rw [← List.mem_append, List.take_append_drop]
    simp only [interleave, List.mem_append, List.mem_cons, h] at split ⊢
    tauto

/-- R94: a port's units are its notice and its blank unit. -/
theorem State.unitsFor_isSome (s before : State) (p : Port) : ∀ u ∈ s.unitsFor before p, u.portOf.isSome = true := by
  intro u hu
  have blank : ∀ r : PortRecord, u ∈ (match r with
      | .blanked r c _ => if (before.port p).reason = some r ∧ (before.port p).home = some c then [] else [LinkUnit.blank p r c]
      | _ => []) → u.portOf.isSome = true := by
    intro r h
    split at h
    · split at h
      · simp at h
      · rw [List.mem_singleton.mp h]; rfl
    · simp at h
  rcases List.mem_append.mp hu with h | h
  · split at h
    · simp at h
    · rw [List.mem_singleton.mp h]; rfl
  · exact blank _ h

/-- R89, R95: what an event makes it makes for some port. -/
theorem State.mem_eventUnits {s before : State} {u : LinkUnit} (h : u ∈ (s.eventUnits before).1) :
    ∃ p, u ∈ s.unitsFor before p := by
  have run : ∀ (ps : List Port) (acc : List LinkUnit × Choices),
      u ∈ (ps.foldl (fun x p => interleave (s.unitsFor before p) x.1 x.2) acc).1 →
      u ∈ acc.1 ∨ ∃ p, u ∈ s.unitsFor before p := by
    intro ps
    induction ps with
    | nil => exact fun _ h => .inl h
    | cons p ps ih =>
      intro acc h
      rcases ih _ h with m | m
      · exact ((mem_interleave _ _ _).mp m).elim (fun m => .inr ⟨p, m⟩) .inl
      · exact .inr m
  exact (run allPorts ([], s.choices) h).resolve_left (by simp)

/-- R94, R95: the units of an event join the list; nothing else moves. -/
theorem State.announce_ports (s before : State) : PortsFrame s (s.announce before) := by
  have run : ∀ (l : List LinkUnit), (∀ u ∈ l, u.portOf.isSome = true) → ∀ t : State, PortsFrame t (l.foldl State.join t) := by
    intro l
    induction l with
    | nil => exact fun _ t => PortsFrame.refl t
    | cons u l ih =>
      intro h t
      exact (t.join_portsFrame u (h u (List.mem_cons_self ..))).trans (ih (fun v m => h v (List.mem_cons_of_mem u m)) _)
  have drawn : ∀ c : Choices, PortsFrame s { s with choices := c } := fun _ =>
    ⟨rfl, rfl, rfl, rfl, rfl, rfl, rfl, rfl, rfl, rfl, rfl, [], by simp⟩
  refine (drawn _).trans (run _ (fun u h => ?_) _)
  obtain ⟨p, m⟩ := State.mem_eventUnits h
  exact s.unitsFor_isSome before p u m

@[simp] theorem State.announce_pc (s before : State) : (s.announce before).pc = s.pc := by
  have run : ∀ (l : List LinkUnit) (t : State), (l.foldl State.join t).pc = t.pc := by
    intro l
    induction l with
    | nil => exact fun _ => rfl
    | cons u l ih => exact fun t => (ih _).trans (t.join_pc u)
  exact run _ _

/-- R85: a port placed in an active state. -/
theorem State.placeActive_ports (s : State) (p : Port) (v : View) (c : Channel) : PortsFrame s (s.placeActive p v c) := by
  unfold State.placeActive
  have h1 := s.setPort_portsFrame p (s.activeRecord p v c)
  dsimp only
  split
  · exact h1.trans (State.startPreview_ports _ c)
  · exact h1

theorem State.applyDecision_ports (s : State) (p : Port) (c : Channel) (d : Decision) :
    PortsFrame s (s.applyDecision p c d) := by
  cases d
  · exact s.placeActive_ports p .alert c
  · exact PortsFrame.refl s
  · exact s.setPort_portsFrame p _
  · exact s.placeActive_ports p .playing c
  · exact s.placeActive_ports p .preview c

/-- R86: what a tune can change. -/
theorem State.tunePort_ports (s : State) (p : Port) (c : Channel) : PortsFrame s (s.tunePort p c) :=
  s.applyDecision_ports p c _

/-- R88: what a re-evaluation can change. -/
theorem State.reevaluatePort_ports (s : State) (p : Port) : PortsFrame s (s.reevaluatePort p) := by
  unfold State.reevaluatePort
  split
  · exact PortsFrame.refl s
  · split
    · exact s.applyDecision_ports p _ _
    · exact s.applyDecision_ports p _ _

theorem State.reevaluate_ports (s before : State) (p : Port) : PortsFrame s (s.reevaluate before p) :=
  (s.reevaluatePort_ports p).trans (State.announce_ports _ before)

/-- R89: what the re-evaluation of several ports can change. -/
theorem State.reevaluateEach_ports (s : State) (test : Port → Bool) : PortsFrame s (s.reevaluateEach test) :=
  (s.afterArranging_ports test).trans (PortsFrame.foldl (fun t p => t.reevaluatePort_ports p) _ _)

theorem State.reevaluateWhere_ports (s before : State) (test : Port → Bool) :
    PortsFrame s (s.reevaluateWhere before test) :=
  (s.reevaluateEach_ports test).trans (State.announce_ports _ before)

theorem State.reevaluateAll_ports (s before : State) : PortsFrame s (s.reevaluateAll before) :=
  s.reevaluateWhere_ports before _

theorem State.reevaluateTitle_ports (s before : State) (t : Nat) : PortsFrame s (s.reevaluateTitle before t) :=
  s.reevaluateWhere_ports before _

/-- R87: what turning a port OFF can change. -/
theorem State.turnOff_ports (s before : State) (p : Port) : PortsFrame s (s.turnOff before p) :=
  (s.setPort_portsFrame p .off).trans (State.announce_ports _ before)

theorem State.turnAllOff_ports (s before : State) : PortsFrame s (s.turnAllOff before) :=
  PortsFrame.trans (t := { s with pc := { s.pc with ports := Vector.replicate 4 .off } })
    ⟨rfl, rfl, rfl, rfl, rfl, rfl, rfl, rfl, rfl, rfl, rfl, [], by simp⟩ (State.announce_ports _ before)

theorem State.restream_ports (s : State) (p : Port) : PortsFrame s (s.restream p) := by
  unfold State.restream
  split
  · exact s.setPort_portsFrame p _
  · exact PortsFrame.refl s

theorem State.restreamAll_ports (s : State) : PortsFrame s s.restreamAll :=
  PortsFrame.foldl (fun t p => t.restream_ports p) _ _

theorem State.restreamAlerts_ports (s : State) : PortsFrame s s.restreamAlerts :=
  PortsFrame.foldl (fun t p => by
    split
    · exact t.restream_ports p
    · exact PortsFrame.refl t) _ _

theorem State.expireSignal_ports (s : State) (p : Port) : PortsFrame s (s.expireSignal p) := by
  unfold State.expireSignal
  split
  · exact (s.setPort_portsFrame p _).trans (State.notifyChange_portsFrame _ s p)
  · exact PortsFrame.refl s

theorem State.expireCadence_ports (s : State) (p : Port) : PortsFrame s (s.expireCadence p) := by
  unfold State.expireCadence
  split
  · exact (s.setPort_portsFrame p _).trans (State.sendData_portsFrame _ _ rfl)
  · exact PortsFrame.refl s

theorem State.portMillisecond_ports (s : State) (p : Port) : PortsFrame s (s.portMillisecond p) := by
  unfold State.portMillisecond
  split
  · exact s.setPort_portsFrame p _
  · exact s.expireSignal_ports p
  · exact s.setPort_portsFrame p _
  · exact s.expireCadence_ports p
  · exact PortsFrame.refl s

theorem State.millisecond_ports (s : State) : PortsFrame s s.millisecond :=
  (s.afterArranging_ports _).trans (PortsFrame.foldl (fun t p => t.portMillisecond_ports p) _ _)

theorem State.enterAlert_ports (s : State) (p : Port) : PortsFrame s (s.enterAlert p) := by
  unfold State.enterAlert
  split
  · exact PortsFrame.refl s
  · exact s.placeActive_ports p _ _

theorem State.overPreview_ports (s : State) (p : Port) : PortsFrame s (s.overPreview p) := by
  unfold State.overPreview
  split
  · exact PortsFrame.refl s
  · exact s.applyDecision_ports p _ _

/-- R12, R100: beyond the alert itself, an alert's start changes only what the port operations may. -/
theorem State.startAlert_ports (s : State) (a : Alert) : PortsFrame (s.setAlert (some a)) (s.startAlert a) :=
  (PortsFrame.foldl (fun t p => t.enterAlert_ports p) _ _).trans (State.announce_ports _ s)

/-- R13, R100: the same of a replacement on another channel. -/
theorem State.moveAlert_ports (s : State) (a : Alert) : PortsFrame (s.setAlert (some a)) (s.moveAlert a) :=
  (State.restreamAlerts_ports _).trans (State.announce_ports _ s)

/-- R72, R77, R78: a copy treated at its lane changes, beside what the port operations may, only KS's recency marks. -/
theorem State.copyCleared_ports (s : State) (p : Port) (u : Unit96) (b : Vector Byte 88) :
    PortsFrame s (s.copyCleared p u b) := by
  unfold State.copyCleared
  split
  · exact ((s.setPort_portsFrame p _).trans (State.notifyChange_portsFrame _ s p)).trans
      (State.sendData_portsFrame _ _ rfl)
  · exact PortsFrame.refl s

theorem State.copyMissed_ports (s : State) (p : Port) : PortsFrame s (s.copyMissed p) := by
  unfold State.copyMissed
  split
  · exact (s.setPort_portsFrame p _).trans (State.notifyChange_portsFrame _ s p)
  · exact PortsFrame.refl s

/-! ## Migration (R63) touches KS alone -/

/-- R63: at the end of an event only the key store can still change. -/
theorem State.migrate_eq (s : State) : s.migrate = { s with ks := s.migrate.ks } := by
  unfold State.migrate
  split
  · rfl
  · dsimp only
    split <;> rfl

end Sys2Proof.Machine
end

