-- ==== Sys2Proof/Laws/Fields.lean ====
section
/-! SUPPORT. The frames of Laws/Frames.lean read field by field: what a port operation or a migration leaves alone. -/

namespace Sys2Proof.Machine

variable (s : State)

/-! ## State.announce -/

@[simp] theorem State.announce_su (before : State) : (s.announce before).su = s.su :=
    (s.announce_ports before).su
@[simp] theorem State.announce_fi (before : State) : (s.announce before).fi = s.fi :=
    (s.announce_ports before).fi
@[simp] theorem State.announce_sf (before : State) : (s.announce before).sf = s.sf :=
    (s.announce_ports before).sf
@[simp] theorem State.announce_md (before : State) : (s.announce before).md = s.md :=
    (s.announce_ports before).md
@[simp] theorem State.announce_tm (before : State) : (s.announce before).tm = s.tm :=
    (s.announce_ports before).tm
@[simp] theorem State.announce_ks (before : State) : (s.announce before).ks = s.ks :=
    (s.announce_ports before).ks
@[simp] theorem State.announce_lu (before : State) : (s.announce before).lu = s.lu :=
    (s.announce_ports before).lu
@[simp] theorem State.announce_pu (before : State) : (s.announce before).pu = s.pu :=
    (s.announce_ports before).pu
@[simp] theorem State.announce_bq (before : State) : (s.announce before).bq = s.bq :=
    (s.announce_ports before).bq
@[simp] theorem State.announce_room (before : State) : (s.announce before).room = s.room :=
    (s.announce_ports before).room
@[simp] theorem State.announce_pending (before : State) : (s.announce before).pending = s.pending :=
    (s.announce_ports before).pending

/-! ## State.tunePort -/

@[simp] theorem State.tunePort_su (p : Port) (c : Channel) : (s.tunePort p c).su = s.su :=
    (s.tunePort_ports p c).su
@[simp] theorem State.tunePort_fi (p : Port) (c : Channel) : (s.tunePort p c).fi = s.fi :=
    (s.tunePort_ports p c).fi
@[simp] theorem State.tunePort_sf (p : Port) (c : Channel) : (s.tunePort p c).sf = s.sf :=
    (s.tunePort_ports p c).sf
@[simp] theorem State.tunePort_md (p : Port) (c : Channel) : (s.tunePort p c).md = s.md :=
    (s.tunePort_ports p c).md
@[simp] theorem State.tunePort_tm (p : Port) (c : Channel) : (s.tunePort p c).tm = s.tm :=
    (s.tunePort_ports p c).tm
@[simp] theorem State.tunePort_ks (p : Port) (c : Channel) : (s.tunePort p c).ks = s.ks :=
    (s.tunePort_ports p c).ks
@[simp] theorem State.tunePort_lu (p : Port) (c : Channel) : (s.tunePort p c).lu = s.lu :=
    (s.tunePort_ports p c).lu
@[simp] theorem State.tunePort_pu (p : Port) (c : Channel) : (s.tunePort p c).pu = s.pu :=
    (s.tunePort_ports p c).pu
@[simp] theorem State.tunePort_bq (p : Port) (c : Channel) : (s.tunePort p c).bq = s.bq :=
    (s.tunePort_ports p c).bq
@[simp] theorem State.tunePort_room (p : Port) (c : Channel) : (s.tunePort p c).room = s.room :=
    (s.tunePort_ports p c).room
@[simp] theorem State.tunePort_pending (p : Port) (c : Channel) : (s.tunePort p c).pending = s.pending :=
    (s.tunePort_ports p c).pending

/-! ## State.reevaluate -/

@[simp] theorem State.reevaluate_su (before : State) (p : Port) : (s.reevaluate before p).su = s.su :=
    (s.reevaluate_ports before p).su
@[simp] theorem State.reevaluate_fi (before : State) (p : Port) : (s.reevaluate before p).fi = s.fi :=
    (s.reevaluate_ports before p).fi
@[simp] theorem State.reevaluate_sf (before : State) (p : Port) : (s.reevaluate before p).sf = s.sf :=
    (s.reevaluate_ports before p).sf
@[simp] theorem State.reevaluate_md (before : State) (p : Port) : (s.reevaluate before p).md = s.md :=
    (s.reevaluate_ports before p).md
@[simp] theorem State.reevaluate_tm (before : State) (p : Port) : (s.reevaluate before p).tm = s.tm :=
    (s.reevaluate_ports before p).tm
@[simp] theorem State.reevaluate_ks (before : State) (p : Port) : (s.reevaluate before p).ks = s.ks :=
    (s.reevaluate_ports before p).ks
@[simp] theorem State.reevaluate_lu (before : State) (p : Port) : (s.reevaluate before p).lu = s.lu :=
    (s.reevaluate_ports before p).lu
@[simp] theorem State.reevaluate_pu (before : State) (p : Port) : (s.reevaluate before p).pu = s.pu :=
    (s.reevaluate_ports before p).pu
@[simp] theorem State.reevaluate_bq (before : State) (p : Port) : (s.reevaluate before p).bq = s.bq :=
    (s.reevaluate_ports before p).bq
@[simp] theorem State.reevaluate_room (before : State) (p : Port) : (s.reevaluate before p).room = s.room :=
    (s.reevaluate_ports before p).room
@[simp] theorem State.reevaluate_pending (before : State) (p : Port) : (s.reevaluate before p).pending = s.pending :=
    (s.reevaluate_ports before p).pending

/-! ## State.reevaluateEach -/

@[simp] theorem State.reevaluateEach_su (test : Port → Bool) : (s.reevaluateEach test).su = s.su :=
    (s.reevaluateEach_ports test).su
@[simp] theorem State.reevaluateEach_fi (test : Port → Bool) : (s.reevaluateEach test).fi = s.fi :=
    (s.reevaluateEach_ports test).fi
@[simp] theorem State.reevaluateEach_sf (test : Port → Bool) : (s.reevaluateEach test).sf = s.sf :=
    (s.reevaluateEach_ports test).sf
@[simp] theorem State.reevaluateEach_md (test : Port → Bool) : (s.reevaluateEach test).md = s.md :=
    (s.reevaluateEach_ports test).md
@[simp] theorem State.reevaluateEach_tm (test : Port → Bool) : (s.reevaluateEach test).tm = s.tm :=
    (s.reevaluateEach_ports test).tm
@[simp] theorem State.reevaluateEach_ks (test : Port → Bool) : (s.reevaluateEach test).ks = s.ks :=
    (s.reevaluateEach_ports test).ks
@[simp] theorem State.reevaluateEach_lu (test : Port → Bool) : (s.reevaluateEach test).lu = s.lu :=
    (s.reevaluateEach_ports test).lu
@[simp] theorem State.reevaluateEach_pu (test : Port → Bool) : (s.reevaluateEach test).pu = s.pu :=
    (s.reevaluateEach_ports test).pu
@[simp] theorem State.reevaluateEach_bq (test : Port → Bool) : (s.reevaluateEach test).bq = s.bq :=
    (s.reevaluateEach_ports test).bq
@[simp] theorem State.reevaluateEach_room (test : Port → Bool) : (s.reevaluateEach test).room = s.room :=
    (s.reevaluateEach_ports test).room
@[simp] theorem State.reevaluateEach_pending (test : Port → Bool) : (s.reevaluateEach test).pending = s.pending :=
    (s.reevaluateEach_ports test).pending

/-! ## State.reevaluateWhere -/

@[simp] theorem State.reevaluateWhere_su (before : State) (test : Port → Bool) : (s.reevaluateWhere before test).su = s.su :=
    (s.reevaluateWhere_ports before test).su
@[simp] theorem State.reevaluateWhere_fi (before : State) (test : Port → Bool) : (s.reevaluateWhere before test).fi = s.fi :=
    (s.reevaluateWhere_ports before test).fi
@[simp] theorem State.reevaluateWhere_sf (before : State) (test : Port → Bool) : (s.reevaluateWhere before test).sf = s.sf :=
    (s.reevaluateWhere_ports before test).sf
@[simp] theorem State.reevaluateWhere_md (before : State) (test : Port → Bool) : (s.reevaluateWhere before test).md = s.md :=
    (s.reevaluateWhere_ports before test).md
@[simp] theorem State.reevaluateWhere_tm (before : State) (test : Port → Bool) : (s.reevaluateWhere before test).tm = s.tm :=
    (s.reevaluateWhere_ports before test).tm
@[simp] theorem State.reevaluateWhere_ks (before : State) (test : Port → Bool) : (s.reevaluateWhere before test).ks = s.ks :=
    (s.reevaluateWhere_ports before test).ks
@[simp] theorem State.reevaluateWhere_lu (before : State) (test : Port → Bool) : (s.reevaluateWhere before test).lu = s.lu :=
    (s.reevaluateWhere_ports before test).lu
@[simp] theorem State.reevaluateWhere_pu (before : State) (test : Port → Bool) : (s.reevaluateWhere before test).pu = s.pu :=
    (s.reevaluateWhere_ports before test).pu
@[simp] theorem State.reevaluateWhere_bq (before : State) (test : Port → Bool) : (s.reevaluateWhere before test).bq = s.bq :=
    (s.reevaluateWhere_ports before test).bq
@[simp] theorem State.reevaluateWhere_room (before : State) (test : Port → Bool) : (s.reevaluateWhere before test).room = s.room :=
    (s.reevaluateWhere_ports before test).room
@[simp] theorem State.reevaluateWhere_pending (before : State) (test : Port → Bool) : (s.reevaluateWhere before test).pending = s.pending :=
    (s.reevaluateWhere_ports before test).pending

/-! ## State.reevaluateAll -/

@[simp] theorem State.reevaluateAll_su (before : State) : (s.reevaluateAll before).su = s.su :=
    (s.reevaluateAll_ports before).su
@[simp] theorem State.reevaluateAll_fi (before : State) : (s.reevaluateAll before).fi = s.fi :=
    (s.reevaluateAll_ports before).fi
@[simp] theorem State.reevaluateAll_sf (before : State) : (s.reevaluateAll before).sf = s.sf :=
    (s.reevaluateAll_ports before).sf
@[simp] theorem State.reevaluateAll_md (before : State) : (s.reevaluateAll before).md = s.md :=
    (s.reevaluateAll_ports before).md
@[simp] theorem State.reevaluateAll_tm (before : State) : (s.reevaluateAll before).tm = s.tm :=
    (s.reevaluateAll_ports before).tm
@[simp] theorem State.reevaluateAll_ks (before : State) : (s.reevaluateAll before).ks = s.ks :=
    (s.reevaluateAll_ports before).ks
@[simp] theorem State.reevaluateAll_lu (before : State) : (s.reevaluateAll before).lu = s.lu :=
    (s.reevaluateAll_ports before).lu
@[simp] theorem State.reevaluateAll_pu (before : State) : (s.reevaluateAll before).pu = s.pu :=
    (s.reevaluateAll_ports before).pu
@[simp] theorem State.reevaluateAll_bq (before : State) : (s.reevaluateAll before).bq = s.bq :=
    (s.reevaluateAll_ports before).bq
@[simp] theorem State.reevaluateAll_room (before : State) : (s.reevaluateAll before).room = s.room :=
    (s.reevaluateAll_ports before).room
@[simp] theorem State.reevaluateAll_pending (before : State) : (s.reevaluateAll before).pending = s.pending :=
    (s.reevaluateAll_ports before).pending

/-! ## State.reevaluateTitle -/

@[simp] theorem State.reevaluateTitle_su (before : State) (title : Nat) : (s.reevaluateTitle before title).su = s.su :=
    (s.reevaluateTitle_ports before title).su
@[simp] theorem State.reevaluateTitle_fi (before : State) (title : Nat) : (s.reevaluateTitle before title).fi = s.fi :=
    (s.reevaluateTitle_ports before title).fi
@[simp] theorem State.reevaluateTitle_sf (before : State) (title : Nat) : (s.reevaluateTitle before title).sf = s.sf :=
    (s.reevaluateTitle_ports before title).sf
@[simp] theorem State.reevaluateTitle_md (before : State) (title : Nat) : (s.reevaluateTitle before title).md = s.md :=
    (s.reevaluateTitle_ports before title).md
@[simp] theorem State.reevaluateTitle_tm (before : State) (title : Nat) : (s.reevaluateTitle before title).tm = s.tm :=
    (s.reevaluateTitle_ports before title).tm
@[simp] theorem State.reevaluateTitle_ks (before : State) (title : Nat) : (s.reevaluateTitle before title).ks = s.ks :=
    (s.reevaluateTitle_ports before title).ks
@[simp] theorem State.reevaluateTitle_lu (before : State) (title : Nat) : (s.reevaluateTitle before title).lu = s.lu :=
    (s.reevaluateTitle_ports before title).lu
@[simp] theorem State.reevaluateTitle_pu (before : State) (title : Nat) : (s.reevaluateTitle before title).pu = s.pu :=
    (s.reevaluateTitle_ports before title).pu
@[simp] theorem State.reevaluateTitle_bq (before : State) (title : Nat) : (s.reevaluateTitle before title).bq = s.bq :=
    (s.reevaluateTitle_ports before title).bq
@[simp] theorem State.reevaluateTitle_room (before : State) (title : Nat) : (s.reevaluateTitle before title).room = s.room :=
    (s.reevaluateTitle_ports before title).room
@[simp] theorem State.reevaluateTitle_pending (before : State) (title : Nat) : (s.reevaluateTitle before title).pending = s.pending :=
    (s.reevaluateTitle_ports before title).pending

/-! ## State.takeUpPreview -/

@[simp] theorem State.takeUpPreview_su (title n : Nat) : (s.takeUpPreview title n).su = s.su :=
    (s.takeUpPreview_ports title n).su
@[simp] theorem State.takeUpPreview_fi (title n : Nat) : (s.takeUpPreview title n).fi = s.fi :=
    (s.takeUpPreview_ports title n).fi
@[simp] theorem State.takeUpPreview_sf (title n : Nat) : (s.takeUpPreview title n).sf = s.sf :=
    (s.takeUpPreview_ports title n).sf
@[simp] theorem State.takeUpPreview_md (title n : Nat) : (s.takeUpPreview title n).md = s.md :=
    (s.takeUpPreview_ports title n).md
@[simp] theorem State.takeUpPreview_tm (title n : Nat) : (s.takeUpPreview title n).tm = s.tm :=
    (s.takeUpPreview_ports title n).tm
@[simp] theorem State.takeUpPreview_ks (title n : Nat) : (s.takeUpPreview title n).ks = s.ks :=
    (s.takeUpPreview_ports title n).ks
@[simp] theorem State.takeUpPreview_lu (title n : Nat) : (s.takeUpPreview title n).lu = s.lu :=
    (s.takeUpPreview_ports title n).lu
@[simp] theorem State.takeUpPreview_pu (title n : Nat) : (s.takeUpPreview title n).pu = s.pu :=
    (s.takeUpPreview_ports title n).pu
@[simp] theorem State.takeUpPreview_bq (title n : Nat) : (s.takeUpPreview title n).bq = s.bq :=
    (s.takeUpPreview_ports title n).bq
@[simp] theorem State.takeUpPreview_room (title n : Nat) : (s.takeUpPreview title n).room = s.room :=
    (s.takeUpPreview_ports title n).room
@[simp] theorem State.takeUpPreview_pending (title n : Nat) : (s.takeUpPreview title n).pending = s.pending :=
    (s.takeUpPreview_ports title n).pending

/-! ## State.turnOff -/

@[simp] theorem State.turnOff_su (before : State) (p : Port) : (s.turnOff before p).su = s.su :=
    (s.turnOff_ports before p).su
@[simp] theorem State.turnOff_fi (before : State) (p : Port) : (s.turnOff before p).fi = s.fi :=
    (s.turnOff_ports before p).fi
@[simp] theorem State.turnOff_sf (before : State) (p : Port) : (s.turnOff before p).sf = s.sf :=
    (s.turnOff_ports before p).sf
@[simp] theorem State.turnOff_md (before : State) (p : Port) : (s.turnOff before p).md = s.md :=
    (s.turnOff_ports before p).md
@[simp] theorem State.turnOff_tm (before : State) (p : Port) : (s.turnOff before p).tm = s.tm :=
    (s.turnOff_ports before p).tm
@[simp] theorem State.turnOff_ks (before : State) (p : Port) : (s.turnOff before p).ks = s.ks :=
    (s.turnOff_ports before p).ks
@[simp] theorem State.turnOff_lu (before : State) (p : Port) : (s.turnOff before p).lu = s.lu :=
    (s.turnOff_ports before p).lu
@[simp] theorem State.turnOff_pu (before : State) (p : Port) : (s.turnOff before p).pu = s.pu :=
    (s.turnOff_ports before p).pu
@[simp] theorem State.turnOff_bq (before : State) (p : Port) : (s.turnOff before p).bq = s.bq :=
    (s.turnOff_ports before p).bq
@[simp] theorem State.turnOff_room (before : State) (p : Port) : (s.turnOff before p).room = s.room :=
    (s.turnOff_ports before p).room
@[simp] theorem State.turnOff_pending (before : State) (p : Port) : (s.turnOff before p).pending = s.pending :=
    (s.turnOff_ports before p).pending

/-! ## State.turnAllOff -/

@[simp] theorem State.turnAllOff_su (before : State) : (s.turnAllOff before).su = s.su :=
    (s.turnAllOff_ports before).su
@[simp] theorem State.turnAllOff_fi (before : State) : (s.turnAllOff before).fi = s.fi :=
    (s.turnAllOff_ports before).fi
@[simp] theorem State.turnAllOff_sf (before : State) : (s.turnAllOff before).sf = s.sf :=
    (s.turnAllOff_ports before).sf
@[simp] theorem State.turnAllOff_md (before : State) : (s.turnAllOff before).md = s.md :=
    (s.turnAllOff_ports before).md
@[simp] theorem State.turnAllOff_tm (before : State) : (s.turnAllOff before).tm = s.tm :=
    (s.turnAllOff_ports before).tm
@[simp] theorem State.turnAllOff_ks (before : State) : (s.turnAllOff before).ks = s.ks :=
    (s.turnAllOff_ports before).ks
@[simp] theorem State.turnAllOff_lu (before : State) : (s.turnAllOff before).lu = s.lu :=
    (s.turnAllOff_ports before).lu
@[simp] theorem State.turnAllOff_pu (before : State) : (s.turnAllOff before).pu = s.pu :=
    (s.turnAllOff_ports before).pu
@[simp] theorem State.turnAllOff_bq (before : State) : (s.turnAllOff before).bq = s.bq :=
    (s.turnAllOff_ports before).bq
@[simp] theorem State.turnAllOff_room (before : State) : (s.turnAllOff before).room = s.room :=
    (s.turnAllOff_ports before).room
@[simp] theorem State.turnAllOff_pending (before : State) : (s.turnAllOff before).pending = s.pending :=
    (s.turnAllOff_ports before).pending

/-! ## State.restreamAll -/

@[simp] theorem State.restreamAll_su : (s.restreamAll).su = s.su := (s.restreamAll_ports).su
@[simp] theorem State.restreamAll_fi : (s.restreamAll).fi = s.fi := (s.restreamAll_ports).fi
@[simp] theorem State.restreamAll_sf : (s.restreamAll).sf = s.sf := (s.restreamAll_ports).sf
@[simp] theorem State.restreamAll_md : (s.restreamAll).md = s.md := (s.restreamAll_ports).md
@[simp] theorem State.restreamAll_tm : (s.restreamAll).tm = s.tm := (s.restreamAll_ports).tm
@[simp] theorem State.restreamAll_ks : (s.restreamAll).ks = s.ks := (s.restreamAll_ports).ks
@[simp] theorem State.restreamAll_lu : (s.restreamAll).lu = s.lu := (s.restreamAll_ports).lu
@[simp] theorem State.restreamAll_pu : (s.restreamAll).pu = s.pu := (s.restreamAll_ports).pu
@[simp] theorem State.restreamAll_bq : (s.restreamAll).bq = s.bq := (s.restreamAll_ports).bq
@[simp] theorem State.restreamAll_room : (s.restreamAll).room = s.room := (s.restreamAll_ports).room
@[simp] theorem State.restreamAll_pending : (s.restreamAll).pending = s.pending := (s.restreamAll_ports).pending

/-! ## State.restreamAlerts -/

@[simp] theorem State.restreamAlerts_su : (s.restreamAlerts).su = s.su := (s.restreamAlerts_ports).su
@[simp] theorem State.restreamAlerts_fi : (s.restreamAlerts).fi = s.fi := (s.restreamAlerts_ports).fi
@[simp] theorem State.restreamAlerts_sf : (s.restreamAlerts).sf = s.sf := (s.restreamAlerts_ports).sf
@[simp] theorem State.restreamAlerts_md : (s.restreamAlerts).md = s.md := (s.restreamAlerts_ports).md
@[simp] theorem State.restreamAlerts_tm : (s.restreamAlerts).tm = s.tm := (s.restreamAlerts_ports).tm
@[simp] theorem State.restreamAlerts_ks : (s.restreamAlerts).ks = s.ks := (s.restreamAlerts_ports).ks
@[simp] theorem State.restreamAlerts_lu : (s.restreamAlerts).lu = s.lu := (s.restreamAlerts_ports).lu
@[simp] theorem State.restreamAlerts_pu : (s.restreamAlerts).pu = s.pu := (s.restreamAlerts_ports).pu
@[simp] theorem State.restreamAlerts_bq : (s.restreamAlerts).bq = s.bq := (s.restreamAlerts_ports).bq
@[simp] theorem State.restreamAlerts_room : (s.restreamAlerts).room = s.room := (s.restreamAlerts_ports).room
@[simp] theorem State.restreamAlerts_pending : (s.restreamAlerts).pending = s.pending :=
    (s.restreamAlerts_ports).pending

/-! ## State.expireSignal -/

@[simp] theorem State.expireSignal_su (p : Port) : (s.expireSignal p).su = s.su := (s.expireSignal_ports p).su
@[simp] theorem State.expireSignal_fi (p : Port) : (s.expireSignal p).fi = s.fi := (s.expireSignal_ports p).fi
@[simp] theorem State.expireSignal_sf (p : Port) : (s.expireSignal p).sf = s.sf := (s.expireSignal_ports p).sf
@[simp] theorem State.expireSignal_md (p : Port) : (s.expireSignal p).md = s.md := (s.expireSignal_ports p).md
@[simp] theorem State.expireSignal_tm (p : Port) : (s.expireSignal p).tm = s.tm := (s.expireSignal_ports p).tm
@[simp] theorem State.expireSignal_ks (p : Port) : (s.expireSignal p).ks = s.ks := (s.expireSignal_ports p).ks
@[simp] theorem State.expireSignal_lu (p : Port) : (s.expireSignal p).lu = s.lu := (s.expireSignal_ports p).lu
@[simp] theorem State.expireSignal_pu (p : Port) : (s.expireSignal p).pu = s.pu := (s.expireSignal_ports p).pu
@[simp] theorem State.expireSignal_bq (p : Port) : (s.expireSignal p).bq = s.bq := (s.expireSignal_ports p).bq
@[simp] theorem State.expireSignal_room (p : Port) : (s.expireSignal p).room = s.room := (s.expireSignal_ports p).room
@[simp] theorem State.expireSignal_pending (p : Port) : (s.expireSignal p).pending = s.pending :=
    (s.expireSignal_ports p).pending

/-! ## State.expireCadence -/

@[simp] theorem State.expireCadence_su (p : Port) : (s.expireCadence p).su = s.su := (s.expireCadence_ports p).su
@[simp] theorem State.expireCadence_fi (p : Port) : (s.expireCadence p).fi = s.fi := (s.expireCadence_ports p).fi
@[simp] theorem State.expireCadence_sf (p : Port) : (s.expireCadence p).sf = s.sf := (s.expireCadence_ports p).sf
@[simp] theorem State.expireCadence_md (p : Port) : (s.expireCadence p).md = s.md := (s.expireCadence_ports p).md
@[simp] theorem State.expireCadence_tm (p : Port) : (s.expireCadence p).tm = s.tm := (s.expireCadence_ports p).tm
@[simp] theorem State.expireCadence_ks (p : Port) : (s.expireCadence p).ks = s.ks := (s.expireCadence_ports p).ks
@[simp] theorem State.expireCadence_lu (p : Port) : (s.expireCadence p).lu = s.lu := (s.expireCadence_ports p).lu
@[simp] theorem State.expireCadence_pu (p : Port) : (s.expireCadence p).pu = s.pu := (s.expireCadence_ports p).pu
@[simp] theorem State.expireCadence_bq (p : Port) : (s.expireCadence p).bq = s.bq := (s.expireCadence_ports p).bq
@[simp] theorem State.expireCadence_room (p : Port) : (s.expireCadence p).room = s.room :=
    (s.expireCadence_ports p).room
@[simp] theorem State.expireCadence_pending (p : Port) : (s.expireCadence p).pending = s.pending :=
    (s.expireCadence_ports p).pending

/-! ## State.millisecond -/

@[simp] theorem State.millisecond_su : (s.millisecond).su = s.su := (s.millisecond_ports).su
@[simp] theorem State.millisecond_fi : (s.millisecond).fi = s.fi := (s.millisecond_ports).fi
@[simp] theorem State.millisecond_sf : (s.millisecond).sf = s.sf := (s.millisecond_ports).sf
@[simp] theorem State.millisecond_md : (s.millisecond).md = s.md := (s.millisecond_ports).md
@[simp] theorem State.millisecond_tm : (s.millisecond).tm = s.tm := (s.millisecond_ports).tm
@[simp] theorem State.millisecond_ks : (s.millisecond).ks = s.ks := (s.millisecond_ports).ks
@[simp] theorem State.millisecond_lu : (s.millisecond).lu = s.lu := (s.millisecond_ports).lu
@[simp] theorem State.millisecond_pu : (s.millisecond).pu = s.pu := (s.millisecond_ports).pu
@[simp] theorem State.millisecond_bq : (s.millisecond).bq = s.bq := (s.millisecond_ports).bq
@[simp] theorem State.millisecond_room : (s.millisecond).room = s.room := (s.millisecond_ports).room
@[simp] theorem State.millisecond_pending : (s.millisecond).pending = s.pending := (s.millisecond_ports).pending

/-! ## State.overPreview -/

@[simp] theorem State.overPreview_su (p : Port) : (s.overPreview p).su = s.su :=
    (s.overPreview_ports p).su
@[simp] theorem State.overPreview_fi (p : Port) : (s.overPreview p).fi = s.fi :=
    (s.overPreview_ports p).fi
@[simp] theorem State.overPreview_sf (p : Port) : (s.overPreview p).sf = s.sf :=
    (s.overPreview_ports p).sf
@[simp] theorem State.overPreview_md (p : Port) : (s.overPreview p).md = s.md :=
    (s.overPreview_ports p).md
@[simp] theorem State.overPreview_tm (p : Port) : (s.overPreview p).tm = s.tm :=
    (s.overPreview_ports p).tm
@[simp] theorem State.overPreview_ks (p : Port) : (s.overPreview p).ks = s.ks :=
    (s.overPreview_ports p).ks
@[simp] theorem State.overPreview_lu (p : Port) : (s.overPreview p).lu = s.lu :=
    (s.overPreview_ports p).lu
@[simp] theorem State.overPreview_pu (p : Port) : (s.overPreview p).pu = s.pu :=
    (s.overPreview_ports p).pu
@[simp] theorem State.overPreview_bq (p : Port) : (s.overPreview p).bq = s.bq :=
    (s.overPreview_ports p).bq
@[simp] theorem State.overPreview_room (p : Port) : (s.overPreview p).room = s.room :=
    (s.overPreview_ports p).room
@[simp] theorem State.overPreview_pending (p : Port) : (s.overPreview p).pending = s.pending :=
    (s.overPreview_ports p).pending

/-! ## State.migrate -/

@[simp] theorem State.migrate_su : s.migrate.su = s.su := by rw [s.migrate_eq]
@[simp] theorem State.migrate_fi : s.migrate.fi = s.fi := by rw [s.migrate_eq]
@[simp] theorem State.migrate_sf : s.migrate.sf = s.sf := by rw [s.migrate_eq]
@[simp] theorem State.migrate_md : s.migrate.md = s.md := by rw [s.migrate_eq]
@[simp] theorem State.migrate_tm : s.migrate.tm = s.tm := by rw [s.migrate_eq]
@[simp] theorem State.migrate_pc : s.migrate.pc = s.pc := by rw [s.migrate_eq]
@[simp] theorem State.migrate_lu : s.migrate.lu = s.lu := by rw [s.migrate_eq]
@[simp] theorem State.migrate_pu : s.migrate.pu = s.pu := by rw [s.migrate_eq]
@[simp] theorem State.migrate_bq : s.migrate.bq = s.bq := by rw [s.migrate_eq]
@[simp] theorem State.migrate_rl : s.migrate.rl = s.rl := by rw [s.migrate_eq]
@[simp] theorem State.migrate_room : s.migrate.room = s.room := by rw [s.migrate_eq]
@[simp] theorem State.migrate_choices : s.migrate.choices = s.choices := by rw [s.migrate_eq]
@[simp] theorem State.migrate_pending : s.migrate.pending = s.pending := by rw [s.migrate_eq]

end Sys2Proof.Machine
end

