-- ==== Sys2Proof/Laws/Outcomes.lean ====
section
/-! SUPPORT. Once for each shared operation, what it can answer: the outcome of a row, how MD takes a unit (R25 to R31), how
RL takes a request (R164), a free order (R89), and what a run of due events can change (R10). -/

namespace Sys2Proof.Machine

/-! ## The outcome of a row -/

@[simp] theorem asRow_true (s : State) : asRow true s = .next s := rfl
@[simp] theorem asRow_false (s : State) : asRow false s = .refused .unitOfAnotherRow := rfl

/-- A row goes on exactly where its unit spells it. -/
theorem asRow_eq_next {b : Bool} {s t : State} : asRow b s = .next t ↔ b = true ∧ s = t := by
  cases b <;> simp [asRow]

/-! ## MD (R25 to R31, R35) -/

/-- R26. -/
theorem State.manage_failed {s : State} {u : Unit96} (row : MgmtRow) (owner : State → State) (h : u.checkOk = false) :
    s.manage u row owner = s.failCheck u := by simp [State.manage, h]

/-- R27. -/
theorem State.manage_ignored {s : State} {u : Unit96} (row : MgmtRow) (owner : State → State) (h : u.checkOk = true)
    (d : s.accepts u = false) : s.manage u row owner = s := by simp [State.manage, h, d]

/-- R31, R35: an accepted unit that MD does not refuse reaches its owner, after the burst's close. -/
theorem State.manage_taken {s : State} {u : Unit96} {row : MgmtRow} (owner : State → State) (h : u.checkOk = true)
    (d : s.accepts u = true) (f : row.fieldsOk = true) (r : row.roomOnly = true → s.addressedToRoom u = true) :
    s.manage u row owner = owner (if row.closesBurst then s.closeBurst else s) := by
  have a : ∀ t : State, t.room = s.room → (row.roomOnly && !t.addressedToRoom u) = false := by
    intro t e
    have e' : t.addressedToRoom u = s.addressedToRoom u := by simp [State.addressedToRoom, e]
    cases hr : row.roomOnly
    · rfl
    · simp [e', r hr]
  unfold State.manage
  by_cases c : row.closesBurst
  · have := a s.closeBurst rfl
    simp_all
  · have := a s rfl
    simp_all

/-- Everything MD can do with a unit. -/
theorem State.manage_cases (s : State) (u : Unit96) (row : MgmtRow) (owner : State → State) :
    s.manage u row owner = s.failCheck u ∨ s.manage u row owner = s ∨
    (∃ b : State, (b = s ∨ b = s.closeBurst) ∧
      (s.manage u row owner = b.refuse u .badField ∨ s.manage u row owner = b.refuse u .roomOnly ∨
        s.manage u row owner = owner b)) := by
  unfold State.manage
  split
  · exact .inl rfl
  · split
    · exact .inr (.inl rfl)
    · refine .inr (.inr ⟨if row.closesBurst then s.closeBurst else s, ?_, ?_⟩)
      · split <;> simp
      · dsimp only
        generalize (if row.closesBurst = true then s.closeBurst else s) = b
        by_cases f : row.fieldsOk
        · by_cases r : row.roomOnly && !b.addressedToRoom u
          · right; left; simp [f, r]
          · right; right; simp [f, r]
        · left; simp [f]

/-! ## RL (R164) -/

/-- R164: while the receive direction is open, the request is counted and handed on. -/
theorem State.receive_open {s : State} (u : Unit96) (owner : State → State) (h : s.rl.unanswered < 8) :
    s.receive u owner = owner s.countRequest := by
  have : ¬ 8 ≤ s.rl.unanswered := by omega
  simp [State.receive, RoomLink.receiveHeld, this]

/-- R164: while 8 requests are unanswered the set keeps the unit. -/
theorem State.receive_held {s : State} (u : Unit96) (owner : State → State) (h : 8 ≤ s.rl.unanswered) :
    s.receive u owner = { s with rl := { s.rl with held := s.rl.held ++ [u] } } := by
  simp [State.receive, RoomLink.receiveHeld, h]

/-! ## A free order (R89) -/

/-- A free number lies below its bound. -/
theorem drawFrom_lt {n : Nat} (h : 0 < n) (c : Choices) : (drawFrom n c).1 < n := by
  unfold drawFrom
  split <;> exact Nat.mod_lt _ h

/-- A list in a free order holds what it held. -/
theorem shuffle_perm {α : Type} : ∀ (l : List α) (c : Choices), (shuffle l c).1.Perm l
  | [], _ => by simp [shuffle]
  | [x], _ => by simp [shuffle]
  | x :: y :: l, c => by
    have h := shuffle_perm (y :: l) c
    simp only [shuffle]
    refine (List.perm_insertIdx _ _ ?_).trans (h.cons x)
    exact Nat.le_of_lt_succ (drawFrom_lt (Nat.succ_pos _) _)

/-- R89: the ports that pass a test, each once. -/
theorem State.arranged_perm (s : State) (test : Port → Bool) : (s.arranged test).Perm (allPorts.filter test) :=
  shuffle_perm _ _

theorem State.mem_arranged (s : State) (test : Port → Bool) (p : Port) : p ∈ s.arranged test ↔ test p = true := by
  rw [(s.arranged_perm test).mem_iff, List.mem_filter]
  simp only [and_iff_right_iff_imp]
  intro _
  clear * -
  revert p
  decide

theorem State.arranged_nodup (s : State) (test : Port → Bool) : (s.arranged test).Nodup :=
  (s.arranged_perm test).nodup_iff.mpr (List.Nodup.filter _ (by decide))

/-- Nothing is drawn where there is one order only. -/
theorem shuffle_single {α : Type} (x : α) (c : Choices) : shuffle [x] c = ([x], c) := rfl

/-! ## Due events (R10) -/

/-- What due events leave alone: of SU all but spend and alert; FI, SF, MD, TM; of LU the ceiling, the PIN, the failures
and the frozen flag; of PU the silent purchase count; of BQ the marks; of RL all but notices and blank units added. -/
structure DueFrame (s t : State) : Prop where
  su      : t.su = { s.su with spend := t.su.spend, alert := t.su.alert }
  fi      : t.fi = s.fi
  sf      : t.sf = s.sf
  md      : t.md = s.md
  tm      : t.tm = s.tm
  lu      : t.lu = { s.lu with lockout := t.lu.lockout, strict := t.lu.strict, unlocks := t.lu.unlocks }
  pu      : t.pu.silentCount = s.pu.silentCount
  high    : t.bq.high = s.bq.high
  low     : t.bq.low = s.bq.low
  room    : t.room = s.room
  pending : t.pending = s.pending
  link    : ∃ l : List LinkUnit, (∀ u ∈ l, u.portOf.isSome = true) ∧ t.rl = { s.rl with transmit := s.rl.transmit ++ l }

theorem DueFrame.refl (s : State) : DueFrame s s :=
  ⟨rfl, rfl, rfl, rfl, rfl, rfl, rfl, rfl, rfl, rfl, rfl, [], by simp⟩

theorem DueFrame.trans {s t u : State} (a : DueFrame s t) (b : DueFrame t u) : DueFrame s u := by
  obtain ⟨l, hl, el⟩ := a.link
  obtain ⟨m, hm, em⟩ := b.link
  refine ⟨?_, b.fi.trans a.fi, b.sf.trans a.sf, b.md.trans a.md, b.tm.trans a.tm, ?_, b.pu.trans a.pu,
    b.high.trans a.high, b.low.trans a.low, b.room.trans a.room, b.pending.trans a.pending, l ++ m, ?_, ?_⟩
  · rw [b.su, a.su]
  · rw [b.lu, a.lu]
  · intro u hu
    rcases List.mem_append.mp hu with h | h
    · exact hl u h
    · exact hm u h
  · rw [em, el]; simp

theorem PortsFrame.toDue {s t : State} (h : PortsFrame s t) : DueFrame s t :=
  ⟨by rw [h.su], h.fi, h.sf, h.md, h.tm, by rw [h.lu], by rw [h.pu], by rw [h.bq], by rw [h.bq], h.room, h.pending,
    h.link⟩

theorem State.migrate_due (s : State) : DueFrame s s.migrate :=
  ⟨by simp, by simp, by simp, by simp, by simp, by simp, by simp, by simp, by simp, by simp, by simp, [], by simp⟩

/-- R57, R63. -/
theorem State.expireKey_due (s : State) (g : Nat) (ph : KeyPhase) : DueFrame s (s.expireKey g ph) :=
  ⟨by simp [State.expireKey], by simp [State.expireKey], by simp [State.expireKey], by simp [State.expireKey],
    by simp [State.expireKey], by simp [State.expireKey], by simp [State.expireKey], by simp [State.expireKey],
    by simp [State.expireKey], by simp [State.expireKey], by simp [State.expireKey], [], by simp [State.expireKey]⟩

/-- R117. -/
theorem State.endUnlock_due (s : State) (p : Port) : DueFrame s (s.endUnlock p) := by
  unfold State.endUnlock
  split
  · have h : DueFrame s (s.setUnlock p none) :=
      ⟨rfl, rfl, rfl, rfl, rfl, rfl, rfl, rfl, rfl, rfl, rfl, [], by simp⟩
    exact (h.trans (State.reevaluate_ports _ s p).toDue).trans (State.migrate_due _)
  · exact DueFrame.refl s

/-- R114. -/
theorem State.endLockout_due (s : State) (due : Nat) : DueFrame s (s.endLockout due) :=
  ⟨rfl, rfl, rfl, rfl, rfl, rfl, rfl, rfl, rfl, rfl, rfl, [], by simp⟩

/-- R115. -/
theorem State.endStrict_due (s : State) : DueFrame s s.endStrict :=
  ⟨rfl, rfl, rfl, rfl, rfl, rfl, rfl, rfl, rfl, rfl, rfl, [], by simp⟩

/-- R135, R140: the closing of a purchase. -/
theorem State.closePurchase_due (s : State) (e : Purchase) (time : Nat) : DueFrame s (s.closePurchase e time) := by
  unfold State.closePurchase
  dsimp only
  split <;> exact ⟨rfl, rfl, rfl, rfl, rfl, rfl, rfl, rfl, rfl, rfl, rfl, [], by simp⟩

/-- R135. -/
theorem State.endWindow_due (s : State) (e : Purchase) (due : Nat) : DueFrame s (s.endWindow e due) :=
  ((s.closePurchase_due e due).trans (State.reevaluateTitle_ports _ s e.title).toDue).trans (State.migrate_due _)

/-- R14, R101. -/
theorem State.endAlert_due (s : State) : DueFrame s s.endAlert := by
  have h : DueFrame s (s.setAlert none) := ⟨rfl, rfl, rfl, rfl, rfl, rfl, rfl, rfl, rfl, rfl, rfl, [], by simp⟩
  exact (h.trans (State.reevaluateWhere_ports _ s _).toDue).trans (State.migrate_due _)

theorem State.takeDue_due (s : State) (due : Nat) (e : DueEvent) : DueFrame s (s.takeDue due e) := by
  cases e with
  | keyPhase g ph => exact s.expireKey_due g ph
  | unlock p => exact s.endUnlock_due p
  | lockout => exact s.endLockout_due due
  | strict => exact s.endStrict_due
  | window t =>
    simp only [State.takeDue]
    split
    · exact s.endWindow_due _ due
    · exact DueFrame.refl s
  | alert => exact s.endAlert_due

theorem State.takeNext_due (s : State) : DueFrame s s.takeNext := by
  unfold State.takeNext
  split
  · exact DueFrame.refl s
  · exact s.takeDue_due _ _
  · have h : ∀ c : Choices, DueFrame s { s with choices := c } := fun c =>
      ⟨rfl, rfl, rfl, rfl, rfl, rfl, rfl, rfl, rfl, rfl, rfl, [], by simp⟩
    exact (h _).trans (State.takeDue_due _ _ _)

theorem State.takeDueUpTo_due : ∀ (n : Nat) (s : State), DueFrame s (State.takeDueUpTo n s)
  | 0, s => DueFrame.refl s
  | n + 1, s => s.takeNext_due.trans (State.takeDueUpTo_due n _)

/-- R10: what every event due can change, taken together. -/
theorem State.settleDue_due (s : State) : DueFrame s s.settleDue := State.takeDueUpTo_due _ s

theorem State.settleHeld_due (s : State) : DueFrame s s.settleHeld := by
  unfold State.settleHeld
  split
  · exact s.settleDue_due
  · exact DueFrame.refl s

/-- R10: with nothing due nothing happens. -/
theorem State.settleDue_none {s : State} (h : s.dueNow = []) : s.settleDue = s := by
  have step : s.takeNext = s := by simp [State.takeNext, h, earliest]
  have run : ∀ n, State.takeDueUpTo n s = s := by
    intro n
    induction n with
    | zero => rfl
    | succ n ih => simp [State.takeDueUpTo, step, ih]
  exact run _

/-- R10: below the clock's last value no due time is held at the clock. -/
theorem State.settleHeld_below {s : State} (h : s.su.clock < 4294967295) : s.settleHeld = s := by
  have : ¬ 4294967295 ≤ s.su.clock := by omega
  simp [State.settleHeld, this]

end Sys2Proof.Machine
end

