-- ==== Sys2Proof/Laws/Decisions.lean ====
section
/-! SUPPORT. Once for each of the shared words of Safety.lean, that the model's operation does it: the tune decision (R83),
where a decision places a port and what units that makes (R85), the re-evaluation of several ports (R89), the migration
(R63, R64), the units of an event (R93 to R95) and where they fall into the list (R167), the form of a billing record
(R151), the change of one key group (R57, R67) and the run of due events (R10). -/

namespace Sys2Proof.Machine

/-! ## The tune decision (R83, R84) -/

/-- R1: the vacant window. -/
theorem inWindow_iff (first last c : Channel) :
    inWindow first last c = true ↔ if first ≤ last then first ≤ c ∧ c ≤ last else first ≤ c ∨ c ≤ last := by
  unfold inWindow
  split <;> simp

/-- R106. -/
theorem State.effectiveCeiling_eq (s : State) (p : Port) :
    s.effectiveCeiling p = if s.lu.unlocks[p] ≠ none then 7 else s.lu.ceiling := by
  unfold State.effectiveCeiling
  cases s.lu.unlocks[p] <;> simp

/-- R83, check 3. -/
theorem State.vacancy_iff (s : State) (c : Channel) (tier : Tier) :
    (!s.isOccupied && s.vacancyBlocks c tier) = true ↔ s.su.occupancy ≠ .occupied ∧ tier ≠ .house ∧
      ¬ (tier = .free ∧ inWindow s.su.vacantFirst s.su.vacantLast c = true) := by
  cases tier <;> simp [State.vacancyBlocks, State.isOccupied]

/-- R84: the outcome for a FILM channel that reaches check 5. -/
theorem State.filmDecision_cases (s : State) (title : Nat) (k : PriceCode) :
    let record := s.previewRecord title
    let length := ((s.price k).map (·.preview)).getD 0
    let used := (record.map (·.seconds)).getD 0
    (s.purchase title ≠ none → s.filmDecision title k = .playing) ∧
    (s.purchase title = none →
      (used < length → s.filmDecision title k = .preview) ∧
      (length ≤ used → 0 < length → (∃ r, record = some r ∧ r.bought = false) →
        s.filmDecision title k = .blank .previewOver) ∧
      (length ≤ used → (length = 0 ∨ ∀ r, record = some r → r.bought = true) →
        s.filmDecision title k = .blank .notPurchased)) := by
  unfold State.filmDecision
  cases s.purchase title with
  | some e => simp
  | none =>
    cases hp : s.price k with
    | none => simp [previewLeft]
    | some entry =>
      cases s.previewRecord title with
      | none => simp [previewLeft]; omega
      | some r =>
        simp only [previewLeft, Option.map_some, Option.getD_some, Option.any_some, Option.isSome_none, Bool.false_eq_true,
          if_false, ne_eq, not_true_eq_false, false_imp_iff, true_imp_iff, true_and, Nat.sub_pos_iff_lt]
        refine ⟨fun h => if_pos h, fun h1 h2 h3 => ?_, fun h1 h2 => ?_⟩
        · obtain ⟨_, h3, hb⟩ := h3
          cases h3
          rw [if_neg (by omega)]; simp [h2, hb]
        · rw [if_neg (by omega)]
          rcases h2 with h | h
          · simp [h]
          · simp [h r rfl]

/-- R83, R84: the model's decision is the one that the checks give. -/
theorem State.tuneDecision_decides (s : State) (p : Port) (c : Channel) :
    s.Decides s.pc.previews p c (s.tuneDecision p c) := by
  unfold State.Decides State.tuneDecision
  cases s.su.alert with
  | some a => simp
  | none =>
    cases s.entry c with
    | none => simp
    | some e =>
      simp only [Option.isSome_none, Bool.false_eq_true, if_false, ← inWindow_iff, ← s.vacancy_iff c e.tier,
        ← s.effectiveCeiling_eq p]
      by_cases hv : (!s.isOccupied && s.vacancyBlocks c e.tier) = true
      · simp [hv]
      · simp only [hv, not_false_eq_true, true_imp_iff, false_imp_iff, true_and, if_false, Bool.false_eq_true]
        refine ⟨fun h => if_pos h, fun h => ?_⟩
        rw [if_neg (Nat.not_lt.mpr h)]
        cases e.tier with
        | house => rfl
        | free => rfl
        | package n => rfl
        | film title k => exact s.filmDecision_cases title k

/-- R83: a decision reads only the stay record, the alert, the tables, the lock, the purchases and the Preview List given. -/
theorem State.Decides.congr {s t : State} {l : List Preview} {p : Port} {c : Channel} {d : Decision}
    (h : s.Decides l p c d) (su : t.su = s.su) (tm : t.tm = s.tm) (lu : t.lu = s.lu) (pu : t.pu = s.pu) :
    t.Decides l p c d := by
  simp only [State.Decides, State.entry, State.price, State.purchase, su, tm, lu, pu] at h ⊢
  exact h

/-! ## One decided port (R85, R88) -/

/-- R86, R88: a decision applied; an ABSENT channel blanks NOT_ENTITLED, as a re-evaluation has it. -/
def State.decidePort (s : State) (p : Port) (c : Channel) (d : Decision) : State :=
  match d with
  | .absent => s.applyDecision p c (.blank .notEntitled)
  | d => s.applyDecision p c d

/-- R88. -/
theorem State.reevaluatePort_eq {s : State} {p : Port} {c : Channel} (h : (s.port p).home = some c) :
    s.reevaluatePort p = s.decidePort p c (s.tuneDecision p c) := by
  cases d : s.tuneDecision p c <;> simp [State.reevaluatePort, h, State.decidePort, d]

/-- R86: a tune of a channel that is PRESENT, or while an alert is active. -/
theorem State.tunePort_eq {s : State} (p : Port) {c : Channel} (h : s.tuneDecision p c ≠ .absent) :
    s.tunePort p c = s.decidePort p c (s.tuneDecision p c) := by
  cases d : s.tuneDecision p c <;> simp_all [State.tunePort, State.decidePort]

@[simp] theorem State.joinPreview_port (s : State) (r : Preview) (p : Port) : (s.joinPreview r).port p = s.port p := rfl

@[simp] theorem State.startPreview_port (s : State) (c : Channel) (p : Port) : (s.startPreview c).port p = s.port p := by
  unfold State.startPreview
  split
  · rfl
  · split <;> rfl

@[simp] theorem State.announce_port (s before : State) (p : Port) : (s.announce before).port p = s.port p := by
  simp [State.port]

/-- R82: one port record replaced. -/
theorem State.setPort_port (s : State) (p : Port) (r : PortRecord) (q : Port) :
    (s.setPort p r).port q = if q = p then r else s.port q := by
  split
  · next e => subst e; exact s.setPort_port_self q r
  · next e => exact s.setPort_port_other r e

/-- R85: a port placed in an active state, and every other port. -/
theorem State.placeActive_port (s : State) (p : Port) (v : View) (c : Channel) (q : Port) :
    (s.placeActive p v c).port q = if q = p then s.activeRecord p v c else s.port q := by
  unfold State.placeActive
  dsimp only
  split <;> simp [State.setPort_port]

theorem blankedFrom_blanked (old : PortRecord) (r : BlankReason) (c : Channel) :
    ∃ n, blankedFrom old r c = .blanked r c n := by
  unfold blankedFrom
  split
  · next h =>
    cases old <;> simp [PortRecord.reason, PortRecord.home] at h
    exact ⟨_, by rw [h.1, h.2]⟩
  · exact ⟨500, rfl⟩

/-- R85: the record that an active state is entered with. -/
theorem State.activeRecord_eq (s : State) (p : Port) (c : Channel) :
    s.activeRecord p .alert c = s.placed (s.port p) c .alert ∧
    s.activeRecord p .playing c = s.placed (s.port p) c .playing ∧
    s.activeRecord p .preview c = s.placed (s.port p) c .preview := by
  have ha : s.resolve .alert c = s.su.alert.bind fun a => s.streamOf a.channel := by
    simp only [State.resolve, State.serviceOf, State.serviceChannel, State.streamOf]
    cases s.su.alert <;> simp
  have hc : ∀ v, v ≠ View.alert → s.resolve v c = s.streamOf c := by
    intro v hv
    cases v
    · rfl
    · rfl
    · exact absurd rfl hv
  refine ⟨?_, ?_, ?_⟩
  · simp only [State.activeRecord, State.placed, PortRecord.delivery, ← ha]
    cases h : s.port p with
    | off => rfl
    | blanked => rfl
    | active v => cases v <;> rfl
  · simp only [State.activeRecord, State.placed, ← hc .playing (by simp)]
    cases h : s.port p <;> rfl
  · simp only [State.activeRecord, State.placed, ← hc .preview (by simp)]
    cases h : s.port p <;> rfl

/-- R85, R88: where a decision leaves its port, and that every other port stays. -/
theorem State.decidePort_port (s : State) (p : Port) (c : Channel) (d : Decision) (q : Port) :
    (s.decidePort p c d).port q = if q = p then s.placed (s.port p) c d else s.port q := by
  cases d with
  | absent => exact s.setPort_port p _ q
  | blank r => exact s.setPort_port p _ q
  | alert => rw [← (s.activeRecord_eq p c).1]; exact s.placeActive_port p .alert c q
  | playing => rw [← (s.activeRecord_eq p c).2.1]; exact s.placeActive_port p .playing c q
  | preview => rw [← (s.activeRecord_eq p c).2.2]; exact s.placeActive_port p .preview c q

/-- R88: a decision sends nothing. -/
@[simp] theorem State.decidePort_rl (s : State) (p : Port) (c : Channel) (d : Decision) : (s.decidePort p c d).rl = s.rl := by
  have preview : ∀ (s : State) (c : Channel), (s.startPreview c).rl = s.rl := by
    intro s c
    unfold State.startPreview
    split
    · rfl
    · split <;> rfl
  cases d <;> simp [State.decidePort, State.applyDecision, State.placeActive, preview]

/-! ## The units of an event (R93 to R95, R167) -/

/-- R94: a notice is what the port's record and the alert make it. -/
theorem State.notice_congr {s t : State} {p : Port} (port : t.port p = s.port p) (alert : t.su.alert = s.su.alert) :
    t.notice p = s.notice p := by
  simp only [State.notice, port, alert]

/-- R93, R94: the units of a port, in the words of Safety.lean. -/
theorem State.unitsFor_eq {s before t : State} {p : Port} (port : t.port p = s.port p) (alert : t.su.alert = s.su.alert) :
    s.unitsFor before p = announced before t p := by
  cases h : s.port p <;> simp [State.unitsFor, announced, State.notice_congr port alert, port, h]

/-- Units that a test turns away leave what it passes of the other list. -/
theorem filter_interleave_left {α : Type} {test : α → Bool} : ∀ (xs ys : List α) (c : Choices), (∀ y ∈ ys, test y = false) →
    (interleave xs ys c).1.filter test = xs.filter test
  | [], ys, _, h => by simpa [interleave] using h
  | x :: xs, [], _, _ => by simp [interleave]
  | x :: xs, y :: ys, c, h => by
    have ih := filter_interleave_left xs ((y :: ys).drop (drawFrom ((y :: ys).length + 1) c).1)
      (drawFrom ((y :: ys).length + 1) c).2 (fun z m => h z (List.mem_of_mem_drop m))
    have taken : ((y :: ys).take (drawFrom ((y :: ys).length + 1) c).1).filter test = [] :=
      List.filter_eq_nil_iff.mpr fun z m => by simp [h z (List.mem_of_mem_take m)]
    simp only [interleave, List.filter_append, List.filter_cons, ih, taken, List.nil_append]

theorem filter_interleave_right {α : Type} {test : α → Bool} : ∀ (xs ys : List α) (c : Choices), (∀ x ∈ xs, test x = false) →
    (interleave xs ys c).1.filter test = ys.filter test
  | [], ys, _, _ => by simp [interleave]
  | x :: xs, [], _, h => by
    simp only [interleave, List.filter_nil]
    exact List.filter_eq_nil_iff.mpr fun z m => by simp [h z m]
  | x :: xs, y :: ys, c, h => by
    have ih := filter_interleave_right xs ((y :: ys).drop (drawFrom ((y :: ys).length + 1) c).1)
      (drawFrom ((y :: ys).length + 1) c).2 (fun z m => h z (List.mem_cons_of_mem x m))
    have gone : ∀ zs : List α, (x :: zs).filter test = zs.filter test := fun zs => by simp [h x (List.mem_cons_self ..)]
    simp only [interleave, List.filter_append, gone, ih]
    rw [← List.filter_append, List.take_append_drop]

/-- R93, R94: what an event makes for a port is for that port. -/
theorem State.unitsFor_portOf (s before : State) (p : Port) : ∀ u ∈ s.unitsFor before p, u.portOf = some p := by
  intro u hu
  have blank : ∀ r : PortRecord, u ∈ (match r with
      | .blanked r c _ => if (before.port p).reason = some r ∧ (before.port p).home = some c then [] else [LinkUnit.blank p r c]
      | _ => []) → u.portOf = some p := by
    intro r h
    split at h
    · split at h
      · simp at h
      · rw [List.mem_singleton.mp h]; rfl
    · simp at h
  rcases List.mem_append.mp hu with h | h
  · split at h
    · simp at h
    · rw [List.mem_singleton.mp h]; rfl
  · exact blank _ h

/-- R95: among the units of an event, each port's stand in their own order. -/
theorem State.eventUnits_filter (s before : State) (q : Port) :
    (s.eventUnits before).1.filter (fun u => u.portOf == some q) = s.unitsFor before q := by
  have mine : ∀ p : Port, (∀ u ∈ s.unitsFor before p, (u.portOf == some q) = decide (p = q)) := by
    intro p u m
    rw [s.unitsFor_portOf before p u m]
    by_cases h : p = q <;> simp [h]
  have run : ∀ (ps : List Port) (acc : List LinkUnit × Choices), ps.Nodup →
      (q ∈ ps → ∀ u ∈ acc.1, (u.portOf == some q) = false) →
      (ps.foldl (fun x p => interleave (s.unitsFor before p) x.1 x.2) acc).1.filter (fun u => u.portOf == some q) =
        if q ∈ ps then s.unitsFor before q else acc.1.filter (fun u => u.portOf == some q) := by
    intro ps
    induction ps with
    | nil => exact fun acc _ _ => by simp
    | cons p ps ih =>
      intro acc nodup clean
      obtain ⟨hp, nodup'⟩ := List.nodup_cons.mp nodup
      rw [List.foldl_cons]
      by_cases h : p = q
      · subst h
        rw [ih _ nodup' (fun m => absurd m hp), if_neg hp, if_pos (List.mem_cons_self ..)]
        rw [filter_interleave_left _ _ _ (clean (List.mem_cons_self ..))]
        exact List.filter_eq_self.mpr fun u m => by simp [mine p u m]
      · have none : ∀ u ∈ s.unitsFor before p, (u.portOf == some q) = false := fun u m => by simp [mine p u m, h]
        rw [ih _ nodup' (fun m u hu => by
          rcases (mem_interleave _ _ _).mp hu with h' | h'
          · exact none u h'
          · exact clean (List.mem_cons_of_mem p m) u h')]
        rw [filter_interleave_right _ _ _ none]
        simp [Ne.symm h]
  have all : q ∈ allPorts := by clear * -; revert q; decide
  exact (run allPorts ([], s.choices) (by decide) (by simp)).trans (if_pos all)

/-- R167: how a unit joins the list. -/
theorem State.join_rl (s : State) (u : LinkUnit) :
    (s.join u).rl = { s.rl with transmit := joinedTo s.rl.transmit u } := by
  cases u <;> simp only [State.join, State.sendData, State.send, joinedTo, linkDataMax] <;> (try split) <;> rfl

/-- R93 to R95, R167: the units of an event join the list, in the words of Safety.lean. -/
theorem State.announce_rl {s before t : State} (port : ∀ p, t.port p = s.port p) (alert : t.su.alert = s.su.alert) :
    ∃ made, Announced before t s.rl.transmit made ∧ (s.announce before).rl = { s.rl with transmit := made } := by
  have run : ∀ (l : List LinkUnit) (u : State),
      (l.foldl State.join u).rl = { u.rl with transmit := l.foldl joinedTo u.rl.transmit } := by
    intro l
    induction l with
    | nil => exact fun _ => rfl
    | cons x l ih => intro u; rw [List.foldl_cons, ih, State.join_rl, List.foldl_cons]
  refine ⟨_, ⟨(s.eventUnits before).1, fun p => ?_, fun u m => ?_, rfl⟩, run _ _⟩
  · rw [s.eventUnits_filter before p, State.unitsFor_eq (port p) alert]
  · obtain ⟨p, m⟩ := State.mem_eventUnits m
    simp [s.unitsFor_portOf before p u m]

/-- R95: no more units may stand first than there are, and each of them is for a port with none waiting. -/
theorem freeBefore_le (waiting units : List LinkUnit) : freeBefore waiting units ≤ units.length :=
  (List.takeWhile_sublist _).length_le

theorem freeBefore_zero (waiting units : List LinkUnit) {u : LinkUnit} {rest : List LinkUnit} (h : units = u :: rest)
    (free : freeBefore waiting units ≠ 0) : ∀ w ∈ waiting, w.portOf ≠ u.portOf := by
  intro w m e
  subst h
  apply free
  have : (waiting.all fun w => w.portOf != u.portOf) = false := by
    rw [List.all_eq_false]
    exact ⟨w, m, by simp [e]⟩
  simp [freeBefore, this]

/-- R95: what stands first may stand there. -/
theorem Merged.prepend {waiting : List LinkUnit} : ∀ (k : Nat) (units : List LinkUnit) {mixed behind : List LinkUnit},
    k ≤ freeBefore waiting units → Merged waiting (units.drop k) mixed behind →
    Merged waiting units (units.take k ++ mixed) behind
  | 0, _, _, _, _, h => by simpa using h
  | k + 1, [], _, _, le, _ => by simp [freeBefore] at le
  | k + 1, u :: units, mixed, behind, le, h => by
    have free := freeBefore_zero waiting (u :: units) rfl (by omega)
    have all : (waiting.all fun w => w.portOf != u.portOf) = true := by
      rw [List.all_eq_true]
      exact fun w m => by simp [free w m]
    have le' : k ≤ freeBefore waiting units := by
      simp only [freeBefore, List.takeWhile_cons, all, if_true, List.length_cons] at le
      exact Nat.le_of_succ_le_succ le
    exact ⟨by simp, .inr ⟨units, rfl, free, Merged.prepend k units le' (by simpa using h)⟩⟩

/-- R95, R167: the free order, in the words of Safety.lean. -/
theorem fallIn_merged : ∀ (waiting units : List LinkUnit) (c : Choices),
    Merged waiting units (fallIn waiting units c).1.1 (fallIn waiting units c).1.2
  | [], units, c => by
    have whole : ∀ us : List LinkUnit, us.takeWhile (fun _ => true) = us := by
      intro us
      induction us with
      | nil => rfl
      | cons u us ih => simp [ih]
    have all : freeBefore [] units = units.length := by simp [freeBefore, whole]
    have := Merged.prepend (waiting := []) (mixed := []) (behind := []) units.length units (by omega)
      (by simp [Merged])
    simpa [fallIn] using this
  | w :: waiting, units, c => by
    have main : ∀ (k : Nat) (d : Choices), k ≤ freeBefore (w :: waiting) units →
        Merged (w :: waiting) units
          (if units.length ≤ k then ((units, w :: waiting), d) else
            ((units.take k ++ w :: (fallIn waiting (units.drop k) d).1.1, (fallIn waiting (units.drop k) d).1.2),
              (fallIn waiting (units.drop k) d).2)).1.1
          (if units.length ≤ k then ((units, w :: waiting), d) else
            ((units.take k ++ w :: (fallIn waiting (units.drop k) d).1.1, (fallIn waiting (units.drop k) d).1.2),
              (fallIn waiting (units.drop k) d).2)).1.2 := by
      intro k d le
      by_cases all : units.length ≤ k
      · rw [if_pos all]
        have := Merged.prepend (waiting := w :: waiting) (mixed := []) (behind := w :: waiting) k units le
          ⟨List.drop_eq_nil_iff.mpr all, rfl⟩
        rwa [List.append_nil, List.take_of_length_le all] at this
      · rw [if_neg all]
        refine Merged.prepend k units le ⟨?_, .inl ⟨waiting, rfl, fallIn_merged waiting (units.drop k) d⟩⟩
        exact fun e => all (List.drop_eq_nil_iff.mp e)
    have bound : (if freeBefore (w :: waiting) units = 0 then (0, c)
        else drawFrom (freeBefore (w :: waiting) units + 1) c).1 ≤ freeBefore (w :: waiting) units := by
      split
      · exact Nat.zero_le _
      · unfold drawFrom
        split <;> exact Nat.le_of_lt_succ (Nat.mod_lt _ (Nat.succ_pos _))
    exact main _ _ bound

/-- R167: no unit is lost or made by the order. -/
theorem Merged.perm : ∀ {waiting units mixed behind : List LinkUnit}, Merged waiting units mixed behind →
    (mixed ++ behind).Perm (waiting ++ units)
  | waiting, units, [], behind, h => by
    obtain ⟨hu, hb⟩ := h
    subst hu hb
    simp
  | waiting, units, u :: mixed, behind, h => by
    obtain ⟨_, ⟨rest, e, m⟩ | ⟨rest, e, _, m⟩⟩ := h <;> subst e
    · exact (Merged.perm m).cons u
    · exact ((Merged.perm m).cons u).trans List.perm_middle.symm

theorem FellIn.perm {before joined t : State} (h : FellIn before joined t) : t.rl.transmit.Perm joined.rl.transmit := by
  obtain ⟨units, mixed, behind, link, merged, e⟩ := h
  rw [e, link]
  conv_rhs => rw [← List.take_append_drop before.rl.ahead before.rl.transmit, List.append_assoc]
  exact (Merged.perm merged).append_left _

/-- An event with no units leaves what waits, and draws nothing. -/
theorem fallIn_nil (waiting : List LinkUnit) (c : Choices) : fallIn waiting [] c = (([], waiting), c) := by
  cases waiting <;> simp [fallIn, freeBefore]

/-- R95, R167: where the units of an event not tied to a request come to stand. -/
theorem State.untied_fellIn {s : State} {event : State → State}
    (link : ∃ l : List LinkUnit, (event s).rl.transmit = s.rl.transmit ++ l) :
    FellIn s (event s) (s.untied event) := by
  obtain ⟨l, link⟩ := link
  have rest : (event s).rl.transmit.drop s.rl.transmit.length = l := by rw [link]; exact List.drop_left
  refine ⟨l, (fallIn (s.rl.transmit.drop s.rl.ahead) l (event s).choices).1.1,
    (fallIn (s.rl.transmit.drop s.rl.ahead) l (event s).choices).1.2, link, fallIn_merged _ _ _, ?_⟩
  simp only [State.untied, rest]

/-- An event that makes no unit leaves the list and the choices as its own work does. -/
theorem State.untied_silent {s : State} {event : State → State} (link : (event s).rl.transmit = s.rl.transmit)
    (ahead : (event s).rl.ahead = s.rl.ahead) : s.untied event = event s := by
  simp only [State.untied, link, List.drop_length, fallIn_nil, List.nil_append, List.take_append_drop, List.length_nil,
    Nat.add_zero]
  rw [← link, ← ahead]

/-- R103, R170: an event at the tail, by the units that it makes. -/
theorem State.atTail_rl {s : State} {event : State → State} {l : List LinkUnit}
    (link : (event s).rl.transmit = s.rl.transmit ++ l) :
    (s.atTail event).rl = { (event s).rl with
      transmit := s.rl.transmit ++ l
      ahead := if l = [] then s.rl.ahead else (s.rl.transmit ++ l).length } := by
  cases l <;> simp [State.atTail, link]

/-- An event that makes no unit is the event. -/
theorem State.atTail_silent {s : State} {event : State → State} (link : (event s).rl.transmit = s.rl.transmit)
    (ahead : (event s).rl.ahead = s.rl.ahead) : s.atTail event = event s := by
  simp only [State.atTail, if_pos (congrArg List.length link)]
  rw [← ahead]

/-- R10: below the clock's last value no due event comes after a request's reply. -/
theorem State.atTail_settleHeld_below {s : State} (h : s.su.clock < 4294967295) : s.atTail State.settleHeld = s := by
  have e := State.settleHeld_below h
  rw [State.atTail_silent (by rw [e]) (by rw [e]), e]

/-! ## The Preview List (R85, R96) -/

/-- R82: the title that a port is previewing is read from its record and the Service Map. -/
theorem State.previewing_congr {s t : State} {p : Port} (port : t.port p = s.port p) (tm : t.tm = s.tm) :
    t.previewing p = s.previewing p := by
  simp only [State.previewing, State.titleOn, State.entry, port, tm]

/-- R96: a record joins, in the words of Safety.lean. -/
theorem State.joinPreview_previews (s : State) (r : Preview) :
    (s.joinPreview r).pc.previews = joinedList s.isPreviewed s.pc.previews r := by
  simp only [State.joinPreview, joinedList, previewMax]
  by_cases h : s.pc.previews.length < 8
  · rw [if_neg (by omega), if_pos h]
  · rw [if_pos (by omega), if_neg h]

/-- R85: a port in PREVIEW finds or starts its title's record. -/
theorem State.startPreview_previews (s : State) (c : Channel) :
    (s.startPreview c).pc.previews = match s.titleOn c with
      | none => s.pc.previews
      | some title => if s.pc.previews.any (·.title == title) then s.pc.previews
          else joinedList s.isPreviewed s.pc.previews { title := title, seconds := 0, bought := false } := by
  unfold State.startPreview
  cases s.titleOn c with
  | none => rfl
  | some title =>
    have : (s.previewRecord title).isSome = s.pc.previews.any (·.title == title) := by
      rw [Bool.eq_iff_iff, State.previewRecord, List.find?_isSome, List.any_eq_true]
    simp only [this]
    split
    · rfl
    · exact s.joinPreview_previews _

/-- R85: a port that a decision does not put into PREVIEW leaves the Preview List alone. -/
theorem State.decidePort_previews (s : State) (p : Port) (c : Channel) (d : Decision) :
    (s.decidePort p c d).pc.previews =
      if d = .preview then ((s.setPort p (s.activeRecord p .preview c)).startPreview c).pc.previews else s.pc.previews := by
  cases d <;> simp [State.decidePort, State.applyDecision, State.placeActive]

/-- R85, R89, R96: the Preview List after a decided port, while the ports of `rest` stand as in `base` and every other port
as in `t`. -/
theorem State.decidePort_listAfter {s base t : State} {rest : List Port} {p : Port} {c : Channel} {d : Decision}
    (port : t.port p = (s.decidePort p c d).port p) (tm : t.tm = s.tm) (tm' : base.tm = s.tm)
    (waiting : ∀ q ∈ rest, s.port q = base.port q) (taken : ∀ q, q ≠ p → q ∉ rest → s.port q = t.port q)
    (here : p ∉ rest) :
    (s.decidePort p c d).pc.previews = listAfter base t rest p s.pc.previews := by
  rw [State.decidePort_previews]
  rw [State.decidePort_port, if_pos rfl] at port
  by_cases hd : d = .preview
  · subst hd
    rw [if_pos rfl, State.startPreview_previews]
    have hp : t.port p = (s.setPort p (s.activeRecord p .preview c)).port p := by
      rw [port, State.setPort_port_self, (s.activeRecord_eq p c).2.2]
    have title : t.previewing p = (s.setPort p (s.activeRecord p .preview c)).titleOn c := by
      simp [State.previewing, port, State.placed, State.titleOn, State.entry, tm]
    have shown : (fun x => allPorts.any fun q =>
        (if rest.contains q then base.previewing q else t.previewing q) == some x) =
        (s.setPort p (s.activeRecord p .preview c)).isPreviewed := by
      funext x
      simp only [State.isPreviewed]
      congr 1
      funext q
      congr 1
      by_cases hq : q ∈ rest
      · have hne : q ≠ p := fun h => here (h ▸ hq)
        rw [if_pos (by simpa using hq)]
        exact State.previewing_congr (by rw [s.setPort_port_other _ hne, waiting q hq]) (by simp [tm'])
      · rw [if_neg (by simpa using hq)]
        refine State.previewing_congr ?_ (by simp [tm])
        by_cases hqp : q = p
        · subst hqp; exact hp
        · rw [s.setPort_port_other _ hqp, taken q hqp hq]
    simp only [listAfter, title, shown, State.setPort_previews]
    cases (s.setPort p (s.activeRecord p .preview c)).titleOn c <;> rfl
  · rw [if_neg hd]
    have : t.previewing p = none := by
      have blank : ∀ r, (match blankedFrom (s.port p) r c with
          | .active .preview home _ _ _ => t.titleOn home
          | _ => none) = none := by
        intro r
        obtain ⟨n, e⟩ := blankedFrom_blanked (s.port p) r c
        rw [e]
      simp only [State.previewing, port]
      cases d with
      | preview => exact absurd rfl hd
      | absent => exact blank _
      | blank r => exact blank r
      | alert =>
        cases s.port p with
        | off => rfl
        | blanked => rfl
        | active v => cases v <;> rfl
      | playing => rfl
    simp [listAfter, this]

/-! ## Several ports (R88, R89) -/

theorem State.decidePort_ports (s : State) (p : Port) (c : Channel) (d : Decision) : PortsFrame s (s.decidePort p c d) := by
  cases d
  · exact s.applyDecision_ports p c .alert
  · exact s.applyDecision_ports p c (.blank _)
  · exact s.applyDecision_ports p c (.blank _)
  · exact s.applyDecision_ports p c .playing
  · exact s.applyDecision_ports p c .preview

/-- R86, R88: a port decided for its target channel, where it has one. -/
def State.decideTarget (target : Port → Option Channel) (s : State) (p : Port) : State :=
  match target p with
  | none => s
  | some c => s.decidePort p c (s.tuneDecision p c)

theorem State.decideTarget_ports (target : Port → Option Channel) (s : State) (p : Port) :
    PortsFrame s (s.decideTarget target p) := by
  unfold State.decideTarget
  split
  · exact PortsFrame.refl s
  · exact s.decidePort_ports p _ _

@[simp] theorem State.decideTarget_rl (target : Port → Option Channel) (s : State) (p : Port) :
    (s.decideTarget target p).rl = s.rl := by
  unfold State.decideTarget
  split <;> simp

theorem State.decideTarget_other {target : Port → Option Channel} {s : State} {p q : Port} (h : q ≠ p) :
    (s.decideTarget target p).port q = s.port q := by
  unfold State.decideTarget
  split
  · rfl
  · rw [State.decidePort_port, if_neg h]

theorem State.decideEach_other {target : Port → Option Channel} {q : Port} :
    ∀ (ps : List Port) (s : State), q ∉ ps → (ps.foldl (State.decideTarget target) s).port q = s.port q
  | [], _, _ => rfl
  | p :: ps, s, h => by
    rw [List.foldl_cons, State.decideEach_other ps _ (fun m => h (List.mem_cons_of_mem p m)),
      State.decideTarget_other (fun e => h (List.mem_cons.mpr (.inl e)))]

theorem State.decideEach_rl {target : Port → Option Channel} :
    ∀ (ps : List Port) (s : State), (ps.foldl (State.decideTarget target) s).rl = s.rl
  | [], _ => rfl
  | p :: ps, s => by rw [List.foldl_cons, State.decideEach_rl ps, State.decideTarget_rl]

/-- R88, R89: ports decided one after another, in the words of Safety.lean. `t` is any state that agrees with the last on
what the words speak of. -/
theorem Decided.of_fold {before base t : State} {target : Port → Option Channel} :
    ∀ (ps : List Port) (s : State), ps.Nodup → (∀ q ∈ ps, base.port q = s.port q) →
      (∀ q ∈ ps, target q ≠ none → before.port q = s.port q) →
      base.tm = s.tm → t.su = s.su → t.sf = s.sf → t.tm = s.tm → t.lu = s.lu → t.pu = s.pu →
      (∀ q, t.port q = (ps.foldl (State.decideTarget target) s).port q) →
      t.pc.previews = (ps.foldl (State.decideTarget target) s).pc.previews →
      Decided before base t target ps s.pc.previews
  | [], s, _, _, _, _, _, _, _, _, _, _, list => list
  | p :: ps, s, nodup, here, was, tm', su, sf, tm, lu, pu, port, list => by
    have hp : p ∉ ps := (List.nodup_cons.mp nodup).1
    have frame := s.decideTarget_ports target p
    have portp : t.port p = (s.decideTarget target p).port p := by
      rw [port, List.foldl_cons, State.decideEach_other ps _ hp]
    have next := Decided.of_fold (before := before) (base := base) (t := t) (target := target) ps
      (s.decideTarget target p) (List.nodup_cons.mp nodup).2
      (fun q m => by
        rw [State.decideTarget_other (fun e => hp (by rw [← e]; exact m))]
        exact here q (List.mem_cons_of_mem p m))
      (fun q m h => by
        rw [State.decideTarget_other (fun e => hp (by rw [← e]; exact m))]
        exact was q (List.mem_cons_of_mem p m) h)
      (tm'.trans frame.tm.symm) (su.trans frame.su.symm) (sf.trans frame.sf.symm) (tm.trans frame.tm.symm)
      (lu.trans frame.lu.symm) (pu.trans frame.pu.symm) port list
    unfold Decided
    cases ht : target p with
    | none =>
      simp only [State.decideTarget, ht] at next portp
      exact ⟨portp.trans (here p (List.mem_cons_self ..)).symm, next⟩
    | some c =>
      simp only [State.decideTarget, ht] at next portp
      have was' : before.port p = s.port p := was p (List.mem_cons_self ..) (by simp [ht])
      refine ⟨⟨s.tuneDecision p c, (s.tuneDecision_decides p c).congr su tm lu pu, ?_⟩, ?_⟩
      · rw [portp, State.decidePort_port, if_pos rfl, was']
        cases s.tuneDecision p c <;> simp [State.placed, State.streamOf, State.entry, su, sf, tm]
      · have list' := State.decidePort_listAfter (base := base) (rest := ps) portp tm tm'
          (fun q m => (here q (List.mem_cons_of_mem p m)).symm)
          (fun q hq m => by
            rw [port, State.decideEach_other (p :: ps) _ (fun m' => by
              rcases List.mem_cons.mp m' with h | h
              · exact hq h
              · exact m h)])
          hp
        rw [list'] at next
        exact next

/-- R89: every port in some order, the ports without a target last. -/
theorem arrange_all (order : List Port) (test : Port → Bool) (h : order.Perm (allPorts.filter test)) :
    (order ++ allPorts.filter fun p => !test p).Perm allPorts :=
  (h.append_right _).trans (List.filter_append_perm test allPorts)

theorem decideEach_skip {target : Port → Option Channel} :
    ∀ (ps : List Port) (s : State), (∀ p ∈ ps, target p = none) → ps.foldl (State.decideTarget target) s = s
  | [], _, _ => rfl
  | p :: ps, s, h => by
    rw [List.foldl_cons, decideEach_skip ps _ fun q m => h q (List.mem_cons_of_mem p m)]
    simp [State.decideTarget, h p (List.mem_cons_self ..)]

/-- R89: re-evaluating the ports that pass a test is deciding each of them for its home channel. -/
theorem reevaluateEach_eq {test : Port → Bool} {target : Port → Option Channel} :
    ∀ (ps : List Port) (s : State), ps.Nodup → (∀ p ∈ ps, test p = true) →
      (∀ p ∈ ps, target p = (s.port p).home) →
      ps.foldl State.reevaluatePort s = ps.foldl (State.decideTarget target) s
  | [], _, _, _, _ => rfl
  | p :: ps, s, nodup, h, targets => by
    have hp : p ∉ ps := (List.nodup_cons.mp nodup).1
    have one : s.reevaluatePort p = s.decideTarget target p := by
      rw [State.decideTarget, targets p (List.mem_cons_self ..)]
      cases home : (s.port p).home with
      | none => simp [State.reevaluatePort, home]
      | some c => exact State.reevaluatePort_eq home
    rw [List.foldl_cons, List.foldl_cons, one]
    refine reevaluateEach_eq (test := test) ps _ (List.nodup_cons.mp nodup).2
      (fun q m => h q (List.mem_cons_of_mem p m)) fun q m => ?_
    rw [State.decideTarget_other (fun e => hp (by rw [← e]; exact m))]
    exact targets q (List.mem_cons_of_mem p m)

/-! ## Migration (R63, R64) -/

/-- R56: a pinned group is one that an active port uses. -/
theorem State.pinned_iff (s : State) (group : Nat) : s.pinned group = true ↔ ∃ p : Port, s.serviceGroup p = some group := by
  simp only [State.pinned, List.any_eq_true, beq_iff_eq]
  exact ⟨fun ⟨p, _, h⟩ => ⟨p, h⟩, fun ⟨p, h⟩ => ⟨p, by clear h; revert p; decide, h⟩⟩

/-- R56: which groups are in use is read from the ports, the alert and the Service Map. -/
theorem State.serviceGroup_congr {s t : State} (su : t.su.alert = s.su.alert) (tm : t.tm = s.tm) (pc : t.pc.ports = s.pc.ports)
    (p : Port) : t.serviceGroup p = s.serviceGroup p := by
  have entry : t.entry = s.entry := by funext c; simp only [State.entry, tm]
  simp only [State.serviceGroup, State.service, State.serviceOf, State.serviceChannel, State.port, su, entry, pc]

/-- R63, R64: what a migration does to KS. -/
theorem State.migrate_keys (s : State) : KeysMigrated s s.migrate := by
  have used : ∀ g, (∃ p : Port, s.migrate.serviceGroup p = some g) ↔ s.pinned g = true := by
    intro g
    rw [s.pinned_iff]
    simp only [State.serviceGroup_congr (s := s) (t := s.migrate) (by simp) (by simp) (by simp)]
  refine ⟨fun h => by simp [State.migrate, h], fun e h => ?_⟩
  simp only [used]
  have place : ∀ w, ({ s.ks.placeInWay e w with slot := none } : KeyStore) = { s.ks with
      sets := s.ks.sets.set (setOf e.group) { s.ks.sets[setOf e.group].setWay (some e) w with recent := w }, slot := none } := by
    intro w
    simp [KeyStore.placeInWay, KeyStore.put, KeyStore.mark, KeyStore.setSet]
  have index : (Fin.ofNat 32 e.group) = setOf e.group := rfl
  unfold State.migrate
  simp only [h, place, index]
  generalize s.ks.sets[setOf e.group] = here
  obtain ⟨w0, w1, recent⟩ := here
  cases w0 with
  | none => simp [KeySet.freeWay, KeySet.setWay]
  | some e0 =>
    cases w1 with
    | none => simp [KeySet.freeWay, KeySet.setWay]
    | some e1 =>
      cases h0 : s.pinned e0.group <;> cases h1 : s.pinned e1.group <;> cases recent <;>
        simp [KeySet.freeWay, KeySet.setWay, State.victim, State.wayPinned, KeySet.lessRecent, h0, h1,
          KeyStore.countReplaced, raiseCounter, counterMax]

/-! ## An event that re-evaluates ports (R88, R89) -/

theorem KeysMigrated.congr {s u t : State} (h : KeysMigrated u t) (ks : u.ks = s.ks) : KeysMigrated s t := by
  unfold KeysMigrated at h ⊢
  simp only [ks] at h
  exact h

/-- R88, R89, R63: a re-evaluation of the ports that pass a test, with the migration that ends its event. -/
theorem State.reevaluateWhere_decided {s before : State} {test : Port → Bool} {target : Port → Option Channel}
    (was : ∀ p, before.port p = s.port p) (targets : ∀ p, target p = if test p = true then (s.port p).home else none) :
    PortsDecided before s (s.reevaluateWhere before test).migrate target := by
  have frame := s.reevaluateWhere_ports before test
  have passes : ∀ p ∈ s.arranged test, test p = true := fun p => (s.mem_arranged test p).mp
  have fails : ∀ p ∈ allPorts.filter (fun p => !test p), target p = none := by
    intro p m
    have : test p = false := by simpa using (List.mem_filter.mp m).2
    simp [targets, this]
  let first := s.afterArranging test
  let order := s.arranged test ++ allPorts.filter fun p => !test p
  have eq : s.reevaluateEach test = order.foldl (State.decideTarget target) first := by
    rw [List.foldl_append, decideEach_skip _ _ fails]
    exact reevaluateEach_eq (test := test) _ _ (s.arranged_nodup test) passes fun p m => by
      rw [targets, if_pos (passes p m)]; rfl
  have all : order.Perm allPorts := arrange_all _ _ (s.arranged_perm test)
  refine ⟨⟨?_, ?_, ?_, ?_, ?_, ?_, ?_, ?_, ?_, ?_⟩, (State.migrate_keys _).congr frame.ks, ⟨order, all, ?_⟩, ?_⟩
  any_goals simp only [State.migrate_su, State.migrate_fi, State.migrate_sf, State.migrate_md, State.migrate_tm,
    State.migrate_lu, State.migrate_pu, State.migrate_bq, State.migrate_room, State.migrate_pending, frame.su, frame.fi,
    frame.sf, frame.md, frame.tm, frame.lu, frame.pu, frame.bq, frame.room, frame.pending]
  · refine Decided.of_fold (before := before) (base := s) order first (all.nodup_iff.mpr (by decide)) (fun _ _ => rfl)
      (fun p _ _ => was p) rfl ?_ ?_ ?_ ?_ ?_ ?_ ?_
    · simp only [State.migrate_su, frame.su]; rfl
    · simp only [State.migrate_sf, frame.sf]; rfl
    · simp only [State.migrate_tm, frame.tm]; rfl
    · simp only [State.migrate_lu, frame.lu]; rfl
    · simp only [State.migrate_pu, frame.pu]; rfl
    · intro q; rw [← eq]; simp only [State.port, State.migrate_pc, State.reevaluateWhere, State.announce_pc]
    · rw [← eq, State.migrate_pc, State.reevaluateWhere, State.announce_pc]
  · obtain ⟨made, announced, link⟩ := State.announce_rl (s := s.reevaluateEach test) (before := before)
      (t := (s.reevaluateWhere before test).migrate)
      (fun p => by simp only [State.port, State.migrate_pc, State.reevaluateWhere, State.announce_pc])
      (by rw [State.migrate_su, frame.su, (s.reevaluateEach_ports test).su])
    have silent : (s.reevaluateEach test).rl = s.rl := by rw [eq, State.decideEach_rl]; rfl
    rw [silent] at announced link
    exact ⟨made, announced, by rw [State.migrate_rl]; exact link⟩

/-! ## Billing records (R131, R150 to R152, R155) -/

/-- R131, R150 to R152, R155: a record handed to BQ. -/
theorem State.bill_eq (s : State) (e : Purchase) (kind : RecordKind) (amount time : Nat) :
    s.bill e kind amount time = { s with bq := s.bq.joined fun seq => s.recordOf seq e kind amount time } := by
  by_cases adult : 6 ≤ e.rating <;>
    simp [State.bill, State.makeRecord, State.recordOf, BillingQueue.append, BillingQueue.joined, adult]

/-! ## One group changed (R53, R57, R67) -/

/-- R53: a group is held in one place of its set. -/
theorem KeyStore.StoreLaw.apart {ks : KeyStore} (law : ks.StoreLaw) (i : Fin 32) :
    (∀ a b, ks.sets[i].way0 = some a → ks.sets[i].way1 = some b → a.group ≠ b.group) ∧
    ∀ c, ks.slot = some c → (∀ a, ks.sets[i].way0 = some a → a.group ≠ c.group) ∧
      ∀ b, ks.sets[i].way1 = some b → b.group ≠ c.group := by
  have nodup := law.2.2
  have mem : ks.sets[i] ∈ ks.sets.toList := by simp
  rw [KeyStore.entries, List.map_append, List.nodup_append] at nodup
  obtain ⟨ways, _, slot⟩ := nodup
  have away : ∀ x, x ∈ ks.sets[i].way0 ∨ x ∈ ks.sets[i].way1 →
      x.group ∈ (ks.sets.toList.flatMap fun st => st.way0.toList ++ st.way1.toList).map (·.group) := by
    intro x hx
    refine List.mem_map.mpr ⟨x, List.mem_flatMap.mpr ⟨_, mem, ?_⟩, rfl⟩
    simpa using hx
  refine ⟨fun a b ha hb => ?_, fun c hc => ⟨fun a ha => ?_, fun b hb => ?_⟩⟩
  · rw [List.map_flatMap, List.nodup_flatMap] at ways
    have := ways.1 _ mem
    rw [ha, hb] at this
    simpa using this
  · exact slot _ (away a (.inl ha)) _ (by simp [hc])
  · exact slot _ (away b (.inr hb)) _ (by simp [hc])

/-- R51: a group stands in no other set than its own. -/
theorem KeyStore.StoreLaw.home {ks : KeyStore} (law : ks.StoreLaw) {i : Fin 32} {e : KeyEntry}
    (h : ks.sets[i].way0 = some e ∨ ks.sets[i].way1 = some e) : setOf e.group = i := by
  have in' : ∀ way, wayLawful i way = true → way = some e → setOf e.group = i := by
    rintro way lawful rfl
    simp only [wayLawful, Option.all_some, Bool.and_eq_true, beq_iff_eq] at lawful
    exact lawful.2
  exact h.elim (in' _ (law.1 i).1) (in' _ (law.1 i).2)

/-- R53: a change of a group at the place that holds it is the change of the group wherever it stands. -/
theorem KeyStore.withGroup_eq {ks : KeyStore} (law : ks.StoreLaw) (group : Nat) (change : KeyEntry → Option KeyEntry) :
    ks.withGroup group change = match ks.locate group with
      | none => ks
      | some place => ks.put group ((ks.at group place).bind change) place := by
  have other : ∀ i : Fin 32, i ≠ setOf group →
      (∀ e, ks.sets[i].way0 = some e → e.group ≠ group) ∧ ∀ e, ks.sets[i].way1 = some e → e.group ≠ group :=
    fun i hi => ⟨fun e h g => hi (by rw [← g, law.home (.inl h)]), fun e h g => hi (by rw [← g, law.home (.inr h)])⟩
  have kept : ∀ x : Option KeyEntry, (∀ e, x = some e → e.group ≠ group) →
      (x.bind fun e => if e.group = group then change e else some e) = x := by
    intro x h
    cases x with
    | none => rfl
    | some e => simp [h e rfl]
  have found : ∀ x : Option KeyEntry, holdsGroup x group = true →
      (x.bind fun e => if e.group = group then change e else some e) = x.bind change ∧ ∃ e, x = some e ∧ e.group = group := by
    intro x h
    cases x with
    | none => simp [holdsGroup] at h
    | some e =>
      have : e.group = group := by simpa [holdsGroup] using h
      exact ⟨by simp [this], e, rfl, this⟩
  have missed : ∀ x : Option KeyEntry, holdsGroup x group = false → ∀ e, x = some e → e.group ≠ group := by
    intro x h e he
    subst he
    simpa [holdsGroup] using h
  obtain ⟨ways, slots⟩ := law.apart (setOf group)
  have sets : ∀ st : KeySet,
      (∀ w0 w1, st = { ks.sets[setOf group] with way0 := w0, way1 := w1 } →
        w0 = (ks.sets[setOf group].way0.bind fun e => if e.group = group then change e else some e) →
        w1 = (ks.sets[setOf group].way1.bind fun e => if e.group = group then change e else some e) →
      (ks.sets.map fun st : KeySet => { st with
        way0 := st.way0.bind fun e => if e.group = group then change e else some e
        way1 := st.way1.bind fun e => if e.group = group then change e else some e }) = ks.sets.set (setOf group) st) := by
    intro st w0 w1 hst h0 h1
    ext1 j hj
    by_cases e : (setOf group).val = j
    · subst e
      simp [hst, h0, h1]
    · have := other ⟨j, hj⟩ (fun h => e (by simp [← h]))
      simp only [Fin.getElem_fin] at this
      simp only [Vector.getElem_map, kept _ this.1, kept _ this.2]
      rw [Vector.getElem_set_ne _ _ e]
  have whole : ks.sets.set (setOf group) ks.sets[setOf group] = ks.sets := by
    ext1 j hj
    by_cases e : (setOf group).val = j
    · subst e; simp
    · rw [Vector.getElem_set_ne _ _ e]
  unfold KeyStore.withGroup KeyStore.locate
  dsimp only
  cases h0 : holdsGroup ks.sets[setOf group].way0 group with
  | true =>
    obtain ⟨c0, e, he, hg⟩ := found _ h0
    have n1 : ∀ b, ks.sets[setOf group].way1 = some b → b.group ≠ group := fun b hb => hg ▸ (ways e b he hb).symm
    have n2 : ∀ c, ks.slot = some c → c.group ≠ group := fun c hc => hg ▸ ((slots c hc).1 e he).symm
    rw [sets _ _ _ rfl rfl rfl, kept _ n2, kept _ n1, c0]
    simp [KeyStore.put, KeyStore.at, KeyStore.setSet, KeySet.setWay, KeySet.way]
  | false =>
    cases h1 : holdsGroup ks.sets[setOf group].way1 group with
    | true =>
      obtain ⟨c1, e, he, hg⟩ := found _ h1
      have n2 : ∀ c, ks.slot = some c → c.group ≠ group := fun c hc => hg ▸ ((slots c hc).2 e he).symm
      rw [sets _ _ _ rfl rfl rfl, kept _ n2, kept _ (missed _ h0), c1]
      simp [KeyStore.put, KeyStore.at, KeyStore.setSet, KeySet.setWay, KeySet.way]
    | false =>
      rw [sets _ _ _ rfl rfl rfl, kept _ (missed _ h0), kept _ (missed _ h1), whole]
      cases h2 : holdsGroup ks.slot group with
      | true => simp [KeyStore.put, KeyStore.at, (found _ h2).1]
      | false => simp [kept _ (missed _ h2)]

/-- R67. -/
theorem KeyStore.purge_eq {ks : KeyStore} (law : ks.StoreLaw) (group : Nat) :
    ks.purge group = ks.withGroup group fun _ => none := by
  rw [KeyStore.withGroup_eq law]
  unfold KeyStore.purge
  cases ks.locate group <;> simp

/-- R55, R57. -/
theorem KeyStore.dropPhase_eq {ks : KeyStore} (law : ks.StoreLaw) (group : Nat) (phase : KeyPhase) :
    ks.dropPhase group phase = ks.withGroup group fun e => e.expired phase := by
  have : (fun e : KeyEntry => (e.setPhase none phase).orFree) = fun e => e.expired phase := by
    funext e
    cases phase <;> simp [KeyEntry.setPhase, KeyEntry.orFree, KeyEntry.expired]
  rw [KeyStore.withGroup_eq law]
  unfold KeyStore.dropPhase
  cases ks.locate group <;> simp [this]

/-! ## Due events in their order (R10) -/

/-- R10: the events taken by `takeDueUpTo` are a run in due order. -/
theorem State.takeDueUpTo_run : ∀ (n : Nat) (s : State), ∃ taken, DueRun s.su.clock s taken (State.takeDueUpTo n s)
  | 0, s => ⟨[], rfl⟩
  | n + 1, s => by
    have least : ∀ d ∈ earliest s.dueNow, d ∈ s.dueEvents ∧ d.1 ≤ s.su.clock ∧ ∀ d' ∈ s.dueEvents, d.1 ≤ d'.1 := by
      intro d hd
      simp only [earliest, State.dueNow, List.mem_filter, List.all_eq_true, decide_eq_true_eq] at hd
      obtain ⟨⟨mem, now⟩, first⟩ := hd
      refine ⟨mem, now, fun d' m => ?_⟩
      by_cases late : d'.1 ≤ s.su.clock
      · exact first d' ⟨m, late⟩
      · omega
    have go : ∀ d ∈ earliest s.dueNow, ∀ c : Choices,
        s.takeNext = ({ s with choices := c } : State).takeDue d.1 d.2 →
        ∃ taken, DueRun s.su.clock s taken (State.takeDueUpTo (n + 1) s) := by
      intro d hd c eq
      obtain ⟨taken, run⟩ := takeDueUpTo_run n s.takeNext
      have clock : s.takeNext.su.clock = s.su.clock := by rw [s.takeNext_due.su]
      refine ⟨d :: taken, (least d hd).1, (least d hd).2.1, (least d hd).2.2, c, ?_⟩
      rw [← eq, ← clock]
      exact run
    cases h : earliest s.dueNow with
    | nil =>
      have stay : s.takeNext = s := by simp [State.takeNext, h]
      obtain ⟨taken, run⟩ := takeDueUpTo_run n s
      exact ⟨taken, by rw [State.takeDueUpTo, stay]; exact run⟩
    | cons d ds =>
      cases ds with
      | nil => exact go d (by simp [h]) s.choices (by simp [State.takeNext, h])
      | cons d' ds =>
        let draw := drawFrom ((d' :: ds).length + 1) s.choices
        refine go ((d :: d' :: ds).getD draw.1 d) ?_ draw.2 (by simp only [State.takeNext, h]; rfl)
        rw [h, List.getD_eq_getElem?_getD]
        cases g : (d :: d' :: ds)[draw.1]? with
        | none => simp
        | some x => exact List.mem_of_getElem? g

end Sys2Proof.Machine
end

