-- ==== Sys2Proof/Tests/Slice0.lean ====
section
/-! SUPPORT. Small tests. Expected results are the figures of spec/ (its worked sequences and tables, named at each test) or
hand calculation from its rules. Then, for each statement, a state and operands that meet its hypotheses. -/

namespace Sys2Proof.Tests
open Sys2Proof Sys2Proof.Machine

-- The kernel works a check word out bit by bit, 688 steps deep, and one theorem after another keeps its stacks few.
set_option maxRecDepth 20000
set_option Elab.async false

/-! ## Units and states -/

/-- A management unit with its check word, from the body's first bytes. -/
def mgmt (body : List Byte) : Unit96 :=
  let covered := (body ++ List.replicate 86 0).take 86
  Unit96.ofBytes [2] (covered ++ be2 (crc covered).toNat)

/-- A request unit naming a port. -/
def req (port : Byte) (body : List Byte) : Unit96 := Unit96.ofBytes [0x20, port] body

/-- A MEDIA unit on stream 305, its phase and count in one byte. -/
def media (phase : Byte) : Unit96 := Unit96.ofBytes [1, 1, 49, phase] [0x5A, 0x7E]

/-- A unit that is no request and no management unit. -/
def idleUnit : Unit96 := Unit96.ofBytes [3] []

/-- The state a command leaves. -/
def after (c : Instr) (s : State) : State :=
  match exec c s with
  | .next t => t
  | _ => s

def film (title stream rating : Nat) : Service :=
  { tier := .film title 4, stream := stream, keyGroup := some 76, rating := rating }

def free (stream group rating : Nat) : Service := { tier := .free, stream := stream, keyGroup := some group, rating := rating }

def tables : TableMemory where
  services := ((((((((Vector.replicate 256 none).set 2 (some { tier := .house, stream := 40, keyGroup := none, rating := 0 })).set
    12 (some (free 305 44 2))).set 28 (some (free 328 12 2))).set 30 (some (film 5001 310 4))).set 31
    (some (film 5003 311 4))).set 32 (some (free 312 108 6))).set 33
    (some { tier := .package 3, stream := 333, keyGroup := none, rating := 3 })).set 34 (some (film 5002 314 6))
  prices := (Vector.replicate 32 none).set 4 (some {
    standard := 1299, offPeak := 899, bandStart := 1320, bandEnd := 360, tax := 85, preview := 120, window := 86400 })

/-- A VACANT room of number 5, all ports OFF. -/
def room : State := { State.reset with room := 5, tm := tables, choices := { tape := List.replicate 16 0, used := 0 } }

/-- An OCCUPIED room: P0 plays channel 12, P1 is BLANKED LOCKED on 32, P2 previews 31, P3 is OFF. -/
def suite : State := { room with
  su := { StayUnit.reset with occupancy := .occupied, stayNumber := 41, cap := 20000, clock := 100000, silent := false }
  pc := { ports := #v[.active .playing 12 (some 305) .flowing 3000, .blanked .locked 32 200,
                      .active .preview 31 (some 311) .flowing 1, .off]
          previews := [{ title := 5001, seconds := 120, bought := true }, { title := 5003, seconds := 40, bought := false }] } }

/-- A purchase of title 5001, bought at the clock of `suite`, with 2,700 outage seconds. -/
def bought : Purchase where
  title := 5001
  price := 4
  rating := 4
  start := 100000
  window := 86400
  windowEnd := 186400
  charge := 1409
  offPeak := false
  silent := false
  outage := 2700

def buyer : State := { suite with su := { suite.su with spend := 1409 }, pu := { purchases := [bought], silentCount := 0 } }

/-- The lock of 07_content_lock.md section 7.9, with P0 unlocked on channel 32. -/
def lock : State := { suite with
  lu := { suite.lu with pin := some [4, 7, 1, 1], unlocks := #v[some 103000, none, none, none] }
  pc := { suite.pc with ports := #v[.active .playing 32 (some 312) .flowing 3000, .blanked .locked 32 200, .off, .off] } }

def failed (n : Nat) : State := { lock with lu := { lock.lu with failures := n } }
def lockedOut : State := { lock with lu := { lock.lu with lockout := some 100650 } }
def strict : State := { lock with lu := { lock.lu with strict := some 103050 } }
def frozen : State := { lock with lu := { lock.lu with frozen := true } }

/-- A house alert on channel 2 over `suite`. -/
def alarm : State := { suite with
  su := { suite.su with alert := some { channel := 2, endTime := 100300 } }
  pc := { suite.pc with ports := #v[.active .alert 12 (some 40) .flowing 3000, .active .alert 32 (some 40) .noSignal 3000,
    .active .alert 31 (some 40) .flowing 3000, .off] } }

def key (group : Nat) : KeyEntry := { group := group, phaseA := some { word := 1, expiry := 102600 }, phaseB := none }

/-- Groups 12 and 44 in the ways of set 12 and 76 in the slot (04_key_store.md section 4.10, step 3). -/
def keys : State := { suite with
  ks := { suite.ks with
    sets := suite.ks.sets.set 12 { way0 := some (key 12), way1 := some (key 44), recent := .way1 }
    slot := some (key 76) }
  pc := { suite.pc with ports := suite.pc.ports.set 1 (.active .playing 28 (some 328) .noKey 3000) } }

def record (seq : Nat) (sent : Bool) : BillingRecord where
  seq := seq
  stay := 41
  kind := .purchase
  category := .film
  title := 5001
  price := 4
  time := 100000
  amount := 1409
  offPeak := false
  silent := false
  discreet := false
  sent := sent

/-- The queue of 10_billing_queue_and_collection.md section 10.7 after step 4. -/
def owing : State := { suite with bq := {
  queue := [record 65530 true, record 65531 true, record 65532 true, record 65533 true, record 65534 false,
    record 65535 false, record 0 false, record 1 false, record 2 false, record 3 false, record 4 false, record 5 false]
  nextSeq := 6, high := 12, low := 6, hold := true } }

/-- A PRICE burst open over 12 and 13 with tag 9 (02, "a burst interrupted and resumed"). -/
def burst (t : Table) (first last : Nat) : State :=
  { suite with md := { suite.md with burst := some { table := t, first := first, last := last, pointer := first, tag := 9 } } }

/-- A list of units that wait: two entries of a listing of four and its reply (11_room_link.md section 11.8). -/
def listing : State :=
  let e : ListEntry := { port := 1, channel := 33, tier := .free, rating := 2, entitled := true, priced := false, charge := 0,
                         offPeak := false, purchased := false, remaining := 0, previewLeft := 0 }
  { suite with rl := { suite.rl with
      transmit := [.listEntry e, .reply { port := 1, kind := 9, code := .ok, detail := 4, report := none }]
      unanswered := 1 } }

/-- A request's notices of P0 and P2 and its reply wait, and the next free order is 1. -/
def moved : State := { suite with
  rl := { suite.rl with
    transmit := [.notice 0 (suite.notice 0), .notice 2 (suite.notice 2),
      .reply { port := 0, kind := 2, code := .ok, detail := 0, report := none }]
    unanswered := 1
    ahead := 1 }
  choices := { tape := [1], used := 0 } }

/-- Eight unanswered requests, a reply to leave, and one unit held back. -/
def busy : State := { suite with rl := {
  transmit := List.replicate 8 (.reply { port := 0, kind := 11, code := .ok, detail := 0, report := none })
  sending := none, unanswered := 8, held := [req 0 [2]], ahead := 8 } }

/-! ## The check word of a unit built here -/

theorem ofBytes_body_toList (h b : List Byte) (hb : b.length = 88) : (Unit96.ofBytes h b).body.toList = b := by
  apply List.ext_getElem
  · simp [hb]
  · intro i h1 h2
    simp [Unit96.ofBytes, List.getD_eq_getElem?_getD, h2]

theorem mgmt_checkOk (body : List Byte) : (mgmt body).checkOk = true := by
  have hc : ((body ++ List.replicate 86 (0 : Byte)).take 86).length = 86 := by simp
  revert hc
  unfold mgmt
  generalize (body ++ List.replicate 86 (0 : Byte)).take 86 = c
  intro hc
  have hl : (c ++ be2 (crc c).toNat).length = 88 := by simp [be2, be1, hc]
  have hb := ofBytes_body_toList [2] _ hl
  have hw := (crc c).isLt
  have h86 : (Unit96.ofBytes [2] (c ++ be2 (crc c).toNat)).byte 86 = BitVec.ofNat 8 ((crc c).toNat / 256) := by
    simp [Unit96.byte, Unit96.ofBytes, List.getD_eq_getElem?_getD, hc, be2, be1]
  have h87 : (Unit96.ofBytes [2] (c ++ be2 (crc c).toNat)).byte 87 = BitVec.ofNat 8 (crc c).toNat := by
    simp [Unit96.byte, Unit96.ofBytes, List.getD_eq_getElem?_getD, hc, be2, be1]
  simp only [Unit96.checkOk, hb, Unit96.word16, h86, h87, beq_iff_eq]
  simp only [BitVec.toNat_ofNat]
  rw [List.take_append_of_le_length (by omega), List.take_of_length_le (by omega)]
  omega

/-- R25: whether a room takes such a unit depends on its destination alone. -/
theorem takes_mgmt (s : State) (body : List Byte) : s.Takes (mgmt body) ↔ s.accepts (mgmt body) = true := by
  simp [State.Takes, mgmt_checkOk]

/-! ## Figures of the spec -/

/-- 02_feed_intake_and_management_units.md section 2.5, the check figure. -/
theorem test_check_figure : crc [0x31, 0x32, 0x33, 0x34, 0x35, 0x36, 0x37, 0x38, 0x39] = 0x29B1#16 := by decide +kernel

/-- 05_descrambler.md section 5.5, bytes 0 and 1 with K_mask 0, then with K_mask hex 12345678. -/
def figure : Unit96 := Unit96.ofBytes [1, 0, 17, 0x43] [0x5A, 0x7E]
theorem test_clear_bytes : keyStep (keyStart 1000 3 17) = 314945788#32 ∧
    ((clearBody (BitVec.ofNat 64 (1000 * 4294967296)) figure).toList.take 2) = [0x48, 0x24] ∧
    ((clearBody (BitVec.ofNat 64 (1000 * 4294967296 + 0x12345678)) figure).toList.take 1) = [0x30] := by decide +kernel

/-- 05_descrambler.md section 5.5, the start value that wraps. -/
theorem test_start_wraps : keyStart 4294960000 2 3000 = 3896#32 := by decide +kernel

/-- 09_charge_arithmetic.md section 9.8, cases A, B and C, and the short window. -/
theorem test_charges :
    (tables.prices[(4 : Fin 32)].map fun e => (e.charge 1000500, e.charge 1034400)) = some (1409, 975) ∧
    [creditOf 1409 2700 86400, creditOf 1409 43199 86400, creditOf 1409 43200 86400, creditOf 975 50000 86400,
      creditOf 1409 119 86400, creditOf 1409 120 86400, creditOf 1409 200 600, creditOf 1409 300 600] =
      [44, 704, 1409, 975, 0, 1, 469, 1409] := by decide +kernel

/-- R22, the clamp example: first 4,000, count 200, target 3,950. -/
theorem test_remap_clamp : clampRemapCount 4000 3950 200 = 95 := by decide

/-- R37, rows 1, 2 and 3 of the clamp examples. -/
theorem test_service_clamps :
    (serviceEntry (mgmt [0, 0, 5, 9, 1, 7, 1, 54, 0, 44, 9, 19, 137, 4]) 5).map (fun e => (e.rating, e.tier)) =
      some (7, .film 5001 4) ∧
    (serviceEntry (mgmt [0, 0, 5, 9, 1, 7, 1, 55, 0, 44, 3, 0, 0, 4]) 5).map (·.tier) = some .free ∧
    serviceEntry (mgmt [0, 0, 5, 9, 1, 149, 15, 255, 0, 12, 2]) 5 = none := by decide +kernel

/-! ## Ill-formed terms -/

/-- Every row that carries a unit refuses a unit of another row. -/
theorem test_other_units_refused :
    (managementRows idleUnit ++ requestRows idleUnit ++
      [Instr.mediaUnit idleUnit, .filler (media 0), .feedReturnUnit idleUnit, .formatFault idleUnit, .nonRequestUnit (req 0 [1])]).all
      (fun c => !c.wellFormed) = true := by decide +kernel

/-- The rows of one unit kind tell their codes apart. -/
theorem test_codes_told_apart :
    [Instr.badKind (mgmt [0, 5, 5]), .keyPurge (mgmt [0, 5, 3, 0, 0, 1]), .keyPurgeAllGroups (mgmt [0, 5, 3]),
      .setCeiling (mgmt [0, 5, 9, 2]), .freeze (mgmt [0, 5, 9, 4]), .houseAlert (mgmt [0, 5, 10, 2]),
      .houseAlertStop (mgmt [0, 5, 10, 2, 0, 1]), .pollBilling (mgmt [0, 5, 11, 2]), .pollCapture (mgmt [0, 5, 11, 1]),
      .unknownRequestKind (req 0 [12]), .tune (req 0 [2]), .mediaUnit (media 0xC0),
      .stayOpen (Unit96.ofBytes [2, 0, 0, 0xC0] [0, 5, 6])].all (fun c => !c.wellFormed) = true := by decide +kernel

theorem test_ill_formed_stops : (match exec (.tune idleUnit) suite with | .refused r => r == .unitOfAnotherRow | _ => false) = true := by
  decide +kernel

/-! ## One step of each row -/

theorem test_powerOnReset :
    (let t := after (.powerOnReset 9) buyer; (t.room, t.lu.ceiling, t.su.restarted, t.bq.high)) = (9, 5, true, 40) := by
  decide +kernel
theorem test_mediaUnit : (after (.mediaUnit (media 3)) { suite with choices := { tape := [1], used := 0 } }).port 0 =
    .active .playing 12 (some 305) .flowing 3000 := by decide +kernel
theorem test_mediaUnit_misses : (after (.mediaUnit (media 0x40)) suite).port 0 =
    .active .playing 12 (some 305) .noKey 3000 := by decide +kernel
theorem test_filler : (after (.filler idleUnit) suite).sf.formatFaults = 0 := by decide +kernel
theorem test_feedReturnUnit : (after (.feedReturnUnit (Unit96.ofBytes [4] [])) suite).sf.formatFaults = 0 := by decide +kernel
theorem test_formatFault : (after (.formatFault (media 0xC0)) suite).sf.formatFaults = 1 := by decide +kernel
theorem test_badKind : (after (.badKind (mgmt [0, 5, 14])) (burst .price 12 13)).md.lastRefusal =
    some { kind := 14, reason := .badKind, clock := 100000 } := by decide +kernel
theorem test_clockMark : (after (.clockMark (mgmt [0, 5, 1, 0, 1, 134, 161])) suite).su.clock = 100001 := by decide +kernel
/-- 04_key_store.md section 4.10, step 4: both ways pinned and the slot held. -/
theorem test_keyLoad : (let t := after (.keyLoad (mgmt [0, 5, 2, 0, 108, 1])) keys
    (t.ks.slot.map (·.group), t.ks.displaced, t.ks.replaced)) = (some 108, 1, 0) := by decide +kernel
theorem test_keyPurge : (let t := after (.keyPurge (mgmt [0, 5, 3, 0, 12])) keys
    (t.ks.slot, t.ks.sets[(12 : Fin 32)].way0.map (·.group), t.ks.replaced)) = (none, some 76, 0) := by decide +kernel
theorem test_keyPurgeAllGroups : (after (.keyPurgeAllGroups (mgmt [0, 5, 3, 0, 0, 1])) keys).ks.slot = none := by
  decide +kernel
theorem test_tableOpen : (after (.tableOpen (mgmt [0, 5, 4, 2, 10, 13, 7])) suite).md.burst =
    some { table := .price, first := 10, last := 13, pointer := 10, tag := 7 } := by decide +kernel
/-- 02, "a burst interrupted and resumed", the last row. -/
theorem test_tableData : (let t := after (.tableData (mgmt [0, 5, 5, 9, 5])) (burst .price 12 13)
    (t.md.burst, t.md.overruns)) = (none, 3) := by decide +kernel
/-- 01_stay_and_time.md section 1.9, step 1. -/
theorem test_stayOpen :
    (let t := after (.stayOpen (mgmt [0, 5, 6, 5, 0, 0, 0, 78, 32])) { room with su := { room.su with stayNumber := 40 } }
     (t.su.stayNumber, t.su.cap, t.su.spend, t.su.occupancy)) = (41, 20000, 0, .occupied) := by decide +kernel
theorem test_stayClose : (let t := after (.stayClose (mgmt [0, 5, 7])) buyer
    (t.su.lastClosed.map (·.net), t.su.occupancy, t.bq.queue.map (·.amount))) = (some 1365, .settling, [44]) := by decide +kernel
theorem test_roomSettings : (let t := after (.roomSettings (mgmt [0, 5, 8, 7, 0, 0, 78, 32, 12, 20])) suite
    (t.su.group, t.bq.high, t.bq.low)) = (7, 12, 11) := by decide +kernel
theorem test_setCeiling : (after (.setCeiling (mgmt [0, 5, 9, 1, 9])) suite).lu.ceiling = 7 := by decide +kernel
theorem test_setCeiling_bad_order : (after (.setCeiling (mgmt [0, 5, 9, 7])) suite).md.refusals = 1 := by decide +kernel
theorem test_endUnlocks : (let t := after (.endUnlocks (mgmt [0, 5, 9, 5])) lock
    (t.lu.unlocks[(0 : Fin 4)], t.port 0)) = (none, .blanked .locked 32 500) := by decide +kernel
theorem test_clearPin : (let t := after (.clearPin (mgmt [0, 5, 9, 2])) (failed 3)
    (t.lu.pin, t.lu.failures, t.lu.unlocks[(0 : Fin 4)])) = (none, 0, some 103000) := by decide +kernel
theorem test_endLockout : (let t := after (.endLockout (mgmt [0, 5, 9, 6])) lockedOut
    (t.lu.lockout, t.lu.strict)) = (none, none) := by decide +kernel
theorem test_freeze : (after (.freeze (mgmt [0, 5, 9, 3])) lock).lu.frozen = true := by decide +kernel
theorem test_unfreeze : (after (.unfreeze (mgmt [0, 5, 9, 4])) frozen).lu.frozen = false := by decide +kernel
/-- 06_viewing_ports.md section 6.12: P0 and P2 keep FLOWING, P1 starts at NO_SIGNAL, P3 stays OFF; three notices. -/
theorem test_houseAlert : (let t := after (.houseAlert (mgmt [0, 5, 10, 2, 1, 44])) suite
    (t.port 0, t.port 1, t.port 3, t.rl.transmit.length)) = (.active .alert 12 (some 40) .flowing 3000,
      .active .alert 32 (some 40) .noSignal 3000, .off, 3) := by decide +kernel
theorem test_houseAlertStop : (let t := after (.houseAlertStop (mgmt [0, 5, 10])) alarm
    (t.port 0, t.port 1, t.su.alert)) =
    (.active .playing 12 (some 305) .flowing 3000, .blanked .locked 32 500, none) := by decide +kernel
theorem test_pollBilling : (let t := after (.pollBilling (mgmt [0, 5, 11, 1])) owing
    (t.bq.queue.map (·.sent), t.fi.nextCount)) =
    ([true, true, true, true, false, false, false, false, false, false, false, false], 1) := by decide +kernel
theorem test_pollCapture : ((after (.pollCapture (mgmt [0, 5, 11, 2])) suite).fi.sending.map (·.unit.content)) =
    some (.capture none) := by decide +kernel
theorem test_returnTransmitEnd :
    (after .returnTransmitEnd (after (.pollCapture (mgmt [0, 5, 11, 2])) suite)).fi.sending = none := by decide +kernel
/-- 10_billing_queue_and_collection.md section 10.7, step 5. -/
theorem test_release : (let t := after (.release (mgmt [0, 5, 12, 255, 255])) owing
    (t.bq.queue.length, t.bq.queue.head?.map (·.seq), t.bq.hold)) = (8, some 65534, true) := by decide +kernel
theorem test_roomReset : (let t := after (.roomReset (mgmt [0, 5, 13])) alarm
    (t.port 0, t.su.alert, t.su.occupancy, t.rl.transmit.length)) = (.off, none, .occupied, 3) := by decide +kernel
/-- 11_room_link.md section 11.7: the reset's notices join the list behind the reply that waits. -/
theorem test_roomReset_behind : (let t := after (.roomReset (mgmt [0, 5, 13])) { moved with choices := { tape := [1, 1, 1], used := 0 } }
    ((t.rl.transmit.take 3).map LinkUnit.portOf, t.rl.transmit.length, t.rl.ahead)) = ([some 0, some 2, none], 6, 6) := by
  decide +kernel
/-- 06_viewing_ports.md section 6.10, second 80. -/
theorem test_localSecond :
    (let t := after .localSecond { suite with pc := { suite.pc with previews := [{ title := 5003, seconds := 119, bought := false }] } }
     (t.port 2, t.pc.previews.map (·.seconds))) = (.blanked .previewOver 31 500, [120]) := by decide +kernel
theorem test_silent : (after .silent suite).su.silent = true := by decide +kernel
/-- 04_key_store.md section 4.10, step 8. -/
theorem test_keyPhaseExpiry : (let t := after (.keyPhaseExpiry 12 .a) keys
    (t.ks.slot, t.ks.sets[(12 : Fin 32)].way0.map (·.group), t.ks.sets[(12 : Fin 32)].recent)) = (none, some 76, .way0) := by
  decide +kernel
theorem test_unlockEnd : (after (.unlockEnd 0) lock).port 0 = .blanked .locked 32 500 := by decide +kernel
/-- 07_content_lock.md section 7.9, the lockout's end. -/
theorem test_lockoutEnd : (after .lockoutEnd lockedOut).lu.strict = some 103050 := by decide +kernel
theorem test_strictQuietEnd : (after .strictQuietEnd strict).lu.strict = none := by decide +kernel
/-- 09_charge_arithmetic.md section 9.8, case A. -/
theorem test_purchaseWindowEnd : (let t := after (.purchaseWindowEnd 5001) buyer
    (t.su.spend, t.bq.queue.map fun r => (r.amount, r.time))) = (1365, [(44, 186400)]) := by decide +kernel
theorem test_houseAlertEnd : (after .houseAlertEnd alarm).port 2 = .active .preview 31 (some 311) .flowing 3000 := by
  decide +kernel
theorem test_signalTimerExpiry : (after (.signalTimerExpiry 2) suite).port 2 = .active .preview 31 (some 311) .noSignal 0 := by
  decide +kernel
theorem test_blankCadenceExpiry : (let t := after (.blankCadenceExpiry 1) suite
    (t.port 1, t.rl.transmit)) = (.blanked .locked 32 500, [.blank 1 .locked 32]) := by decide +kernel
/-- R95: a notice of another event between two of a request's, and one that stays behind its own port's. -/
theorem test_fallIn_blank : ((after (.blankCadenceExpiry 1) moved).rl.transmit.map LinkUnit.portOf) =
    [some 0, some 1, some 2, none] := by decide +kernel
theorem test_fallIn_notice : (let t := after (.signalTimerExpiry 2) moved
    (t.rl.transmit.map LinkUnit.portOf, t.rl.ahead)) = ([some 0, some 2, some 2, none], 3) := by decide +kernel
theorem test_linkUnitSent : (let t := after .linkUnitSent busy
    (t.rl.unanswered, t.rl.held, t.port 0)) = (8, [], .off) := by decide +kernel
theorem test_nonRequestUnit : (after (.nonRequestUnit idleUnit) suite).rl.unanswered = 0 := by decide +kernel
theorem test_unknownRequestKind : (after (.unknownRequestKind (req 2 [13])) suite).rl.transmit =
    [.reply { port := 0, kind := 13, code := .badRequest, detail := 0, report := none }] := by decide +kernel
/-- 06_viewing_ports.md section 6.11: the oldest record that no port previews is removed. -/
theorem test_tune :
    ((after (.tune (req 3 [1, 0, 31])) { suite with pc := {
        ports := suite.pc.ports.set 2 (.active .preview 30 (some 310) .flowing 3000)
        previews := [5001, 5102, 5103, 5104, 5105, 5106, 5107, 5108].map fun t => { title := t, seconds := 1, bought := false } }
      }).pc.previews.map (·.title)) = [5001, 5103, 5104, 5105, 5106, 5107, 5108, 5003] := by decide +kernel
theorem test_off : (let t := after (.off (req 0 [2])) suite; (t.port 0, t.rl.transmit.length)) = (.off, 2) := by decide +kernel
/-- 09_charge_arithmetic.md section 9.8, case D: the cap met exactly. -/
theorem test_buy : (let t := after (.buy (req 0 [3, 0, 30])) { suite with su := { suite.su with spend := 9000, cap := 10409, clock := 1000500 } }
    (t.su.spend, t.bq.queue.map (·.amount), t.port 0)) =
    (10409, [1409], .active .playing 30 (some 310) .flowing 3000) := by decide +kernel
theorem test_buy_over_cap : (after (.buy (req 0 [3, 0, 30])) { suite with su := { suite.su with spend := 9000, cap := 10408, clock := 1000500 } }).rl.transmit =
    [.reply { port := 0, kind := 3, code := .cap, detail := 0, report := none }] := by decide +kernel
theorem test_cancel :
    (let t := after (.cancel (req 0 [4])) (buyer.setPort 0 (.active .playing 30 (some 310) .flowing 3000))
     (t.su.spend, t.pu.purchases, t.port 0, t.bq.queue.map (·.kind))) =
     (0, [], .blanked .notPurchased 30 500, [.void]) := by decide +kernel
/-- 07_content_lock.md section 7.9, the fifth failure. -/
theorem test_pinUnlock : (let t := after (.pinUnlock (req 1 [5, 0, 30, 4, 1, 4, 7, 1])) (failed 4)
    (t.lu.failures, t.lu.lockout, t.port 0)) = (0, some 100600, .blanked .locked 32 500) := by decide +kernel
theorem test_pinSet : (after (.pinSet (req 0 [6, 0, 0, 0, 0, 0, 0, 0, 0, 0, 4, 4, 7, 1, 1])) suite).lu.pin =
    some [4, 7, 1, 1] := by decide +kernel
theorem test_ceiling : (let t := after (.ceiling (req 0 [7, 3])) lockedOut
    (t.lu.ceiling, t.lu.failures)) = (3, 0) := by decide +kernel
theorem test_relock : (after (.relock (req 0 [8])) lock).lu.unlocks[(0 : Fin 4)] = none := by decide +kernel
/-- 03_service_map_and_price_table.md section 3.5, the worked listing. -/
theorem test_list :
    (after (.list (req 1 [9, 0, 28, 6])) { suite with
      su := { suite.su with clock := 1040000 }
      pu := { suite.pu with purchases := [{ bought with windowEnd := 1086900 }] } }).rl.transmit.filterMap (fun
        | .listEntry e => some (e.channel.val, e.entitled, e.charge, e.remaining, e.previewLeft)
        | .reply r => some (0, false, r.detail, 0, 0)
        | _ => none) =
    [(28, true, 0, 0, 0), (30, true, 0, 46900, 0), (31, false, 975, 0, 80), (33, false, 0, 0, 0), (0, false, 4, 0, 0)] := by
  decide +kernel
theorem test_queryPort : (after (.queryPort (req 1 [10])) suite).rl.transmit.head? =
    some (.notice 1 { state := .blanked, reason := some .locked, home := some 32, shown := some 32, delivery := none }) := by
  decide +kernel
theorem test_queryRoom : ((after (.queryRoom (req 0 [11])) alarm).rl.transmit.map fun
    | .reply r => r.report.bind (·.alert)
    | _ => none) = [some (2, 300)] := by decide +kernel
/-- 11_room_link.md section 11.8, step 6: the entry unsent is removed and the LIST's reply counts three. -/
theorem test_linkReset : ((after (.linkReset (req 0 [12])) listing).rl.transmit.map fun
    | .reply r => r.detail
    | _ => 99) = [3, 99, 99, 99, 0] := by decide +kernel

/-- R90, R93: on an empty queue one local millisecond passes. -/
theorem test_idle_step : (match step suite with
    | .next t => (t.port 0, t.port 1, t.port 2) == (.active .playing 12 (some 305) .flowing 2999, .blanked .locked 32 199,
        .active .preview 31 (some 311) .noSignal 0)
    | _ => false) = true := by decide +kernel

/-! ## For each statement with hypotheses, a state and operands that meet them -/

theorem witness_StepRunsTheFrontCommand : ({ suite with pending := [.localSecond] } : State).pending = .localSecond :: [] := rfl
theorem witness_IdleStepIsOneMillisecond : suite.pending = [] := rfl
theorem witness_EveryCommandGoesOn :
    (Instr.tune (req 0 [1])).wellFormed = true ∧ (Instr.tune idleUnit).wellFormed = false := by decide +kernel
theorem witness_ClockNeverDecreases :
    (∃ t, exec .silent suite = .next t) ∧ (∀ strap, Instr.silent ≠ .powerOnReset strap) ∧ suite.su.clock ≤ 4294967295 ∧
      Instr.silent ≠ .localSecond ∧ ∀ u, Instr.silent ≠ .clockMark u :=
  ⟨⟨_, rfl⟩, by simp, by decide, by simp, by simp⟩
theorem witness_DiscardedUnitsChangeNothing :
    idleUnit.header[0].toNat = 3 ∧ (Unit96.ofBytes [4] []).header[0].toNat = 4 ∧ idleUnit.header[0].toNat ≠ 32 ∧
    (Unit96.ofBytes [0] []).header[0].toNat = 0 ∧ 5 ≤ (Unit96.ofBytes [5] []).header[0].toNat ∧
    (media 0xC0).header[0].toNat ≤ 2 ∧ (media 0xC0).header[3].toNat / 64 = 3 ∧
    (Unit96.ofBytes [1, 15, 255] []).header[0].toNat = 1 ∧ (Unit96.ofBytes [1, 15, 255] []).stream = 4095 ∧
    (media 0x80).header[3].toNat / 64 ≠ 3 ∧
    (∀ p : Port, (room.port p).isActive = false) := by decide +kernel
theorem witness_MediaUnitPerPort : (media 0x80).header[0].toNat = 1 ∧ (media 0x80).header[3].toNat / 64 ≠ 3 ∧
    (media 0x80).stream ≠ 4095 ∧ suite.port 0 = .active .playing 12 (some (media 0x80).stream) .flowing 3000 ∧
    suite.port 2 = .active .preview 31 (some 311) .flowing 1 ∧ suite.rl.transmit.length ≤ 56 := by decide +kernel
theorem witness_CheckFailureIsOnlyCounted :
    let u := Unit96.ofBytes [2] [0, 5, 7]
    Instr.stayClose u ∈ managementRows u ∧ (Instr.stayClose u).wellFormed = true ∧ u.checkOk = false := by decide +kernel
theorem witness_DestinationDecidesAcceptance : ∀ d ∈ [[0, 0], [0, 5], [63, 255], [64, 0], [64, 255], [65, 0]],
    let u := mgmt (d ++ [7])
    Instr.stayClose u ∈ managementRows u ∧ (Instr.stayClose u).wellFormed = true ∧ u.checkOk = true := by
  simp only [mgmt_checkOk]; decide +kernel
theorem witness_ManagementRefusals :
    ∀ b ∈ [[0, 5, 0], [0, 5, 14], [0, 5, 2, 3, 255, 1], [0, 5, 2, 0, 0, 3], [0, 5, 3, 3, 255], [0, 5, 4], [0, 5, 4, 4],
      [0, 5, 9], [0, 5, 9, 7], [0, 5, 11], [0, 5, 11, 3], [0, 0, 11, 1], [0, 0, 11, 2], [0, 0, 12]],
      (mgmt b).header[0].toNat = 2 ∧ (mgmt b).header[3].toNat / 64 ≠ 3 ∧ suite.Takes (mgmt b) := by
  simp only [takes_mgmt]; decide +kernel
theorem witness_BurstClosesOnlyAtClosingKinds :
    let u := mgmt [0, 5, 7]
    let v := mgmt [0, 6, 7]
    (match exec (.stayClose u) suite with | .next _ => true | _ => false) = true ∧ Instr.stayClose u ∈ closingRows u ∧
      suite.Takes u ∧ Instr.stayClose v ∈ closingRows v ∧ ¬ suite.Takes v := by simp only [takes_mgmt]; decide +kernel
theorem witness_TableOpenTakesItsWindow :
    let u := mgmt [0, 5, 4, 1, 255, 255]
    let v := mgmt [0, 5, 4, 2, 0, 31]
    let w := mgmt [0, 5, 4, 3, 0, 8]
    (u.spellsMgmt 4 = true ∧ suite.Takes u ∧ u.body[3].toNat = 1 ∧ u.body[4].toNat ≤ u.body[5].toNat ∧ u.body[5].toNat ≤ 255) ∧
    (v.spellsMgmt 4 = true ∧ suite.Takes v ∧ v.body[3].toNat = 2 ∧ v.body[5].toNat ≤ 31) ∧
    (w.spellsMgmt 4 = true ∧ suite.Takes w ∧ w.body[3].toNat = 3 ∧ 7 < w.body[5].toNat) := by simp only [takes_mgmt]; decide +kernel
theorem witness_TableDataRefusals :
    let u := mgmt [0, 5, 5, 9, 9]
    let b : Burst := { table := .service, first := 0, last := 7, pointer := 0, tag := 9 }
    u.spellsMgmt 5 = true ∧ suite.Takes u ∧ suite.md.burst = none ∧ (burst .service 0 7).Takes u ∧
      (burst .service 0 7).md.burst = some b ∧ b.tag = u.body[3] ∧ 8 < u.body[4].toNat ∧
      (mgmt [0, 5, 5, 8]).spellsMgmt 5 = true ∧ b.tag ≠ (mgmt [0, 5, 5, 8]).body[3] := by simp only [takes_mgmt]; decide +kernel
theorem witness_PriceBurstWrites :
    let u := mgmt [0, 5, 5, 9, 6]
    let b : Burst := { table := .price, first := 31, last := 31, pointer := 31, tag := 9 }
    u.spellsMgmt 5 = true ∧ (burst .price 31 31).Takes u ∧ (burst .price 31 31).md.burst = some b ∧ b.table = .price ∧
      b.tag = u.body[3] ∧ 1 ≤ u.body[4].toNat ∧ u.body[4].toNat ≤ 6 ∧ b.pointer ≤ b.last ∧ b.last ≤ 31 := by simp only [takes_mgmt]; decide +kernel
theorem witness_RemapBurstReresolves :
    let u := mgmt [0, 5, 5, 9, 8]
    let b : Burst := { table := .remap, first := 0, last := 7, pointer := 0, tag := 9 }
    u.spellsMgmt 5 = true ∧ (burst .remap 0 7).Takes u ∧ (burst .remap 0 7).md.burst = some b ∧ b.table = .remap ∧
      b.tag = u.body[3] ∧ 1 ≤ u.body[4].toNat ∧ u.body[4].toNat ≤ 8 ∧ b.pointer ≤ b.last ∧ b.last ≤ 7 := by simp only [takes_mgmt]; decide +kernel
theorem witness_ServiceWriteDecidesItsPorts :
    let s := burst .service 30 34
    let b : Burst := { table := .service, first := 30, last := 34, pointer := 30, tag := 9 }
    (∀ n ∈ [1, 8], (mgmt [0, 5, 5, 9, n]).spellsMgmt 5 = true ∧ s.Takes (mgmt [0, 5, 5, 9, n]) ∧
      b.tag = (mgmt [0, 5, 5, 9, n]).body[3] ∧ 1 ≤ (mgmt [0, 5, 5, 9, n]).body[4].toNat ∧
      (mgmt [0, 5, 5, 9, n]).body[4].toNat ≤ 8) ∧
    s.md.burst = some b ∧ b.table = .service ∧ (s.port 2).home = some 31 ∧ (alarm.port 0).state = .alert := by
  simp only [takes_mgmt]; decide +kernel
theorem witness_ServiceEntryClamps :
    [(mgmt [0, 5, 5, 9, 1, 7, 15, 254, 3, 255, 8]), (mgmt [0, 5, 5, 9, 1, 0x95, 0, 1])].map (fun u =>
      ((u.byte 5).toNat % 2, u.word16 6 % 4096, (u.byte 5).toNat / 2 % 4)) = [(1, 4094, 3), (1, 1, 2)] := by decide +kernel
theorem witness_PriceAndRemapEntryClamps :
    (((mgmt [0, 5, 5, 9, 1, 1, 15, 254, 1, 1, 0, 1]).byte 13).toNat < 128) ∧
    128 ≤ ((mgmt [0, 5, 5, 9, 1, 0, 0, 0, 0, 0, 0, 0, 0, 128]).byte 13).toNat ∧
    (remapEntry (mgmt [0, 5, 5, 9, 1, 1, 15, 254, 1, 1, 0, 1]) 5).map (·.count) = some 1 := by decide +kernel
theorem witness_ResolvedStreamIsTheFirstMatch :
    let e : RemapEntry := { first := 3, count := 2, target := 10 }
    ([none, some e, some e] : List (Option RemapEntry)) = [none] ++ some e :: [some e] ∧ e.first ≤ 4 ∧ 4 ≤ e.first + e.count - 1 ∧
      ¬ (e.first ≤ 5 ∧ 5 ≤ e.first + e.count - 1) := by decide
theorem witness_KeyLoadOutcomes :
    let load (g : List Byte) (expiry : List Byte) := mgmt ([0, 5, 2] ++ g ++ [1] ++ List.replicate 8 0 ++ expiry)
    let now := load [3, 254] [0, 1, 134, 160]
    let later := load [0, 108] [0, 1, 134, 161]
    now.spellsMgmt 2 = true ∧ keys.Takes now ∧ now.body[5].toNat = 1 ∧ now.word16 3 ≤ 1022 ∧ 0 < now.word32 14 ∧
    now.word32 14 ≤ keys.su.clock ∧ later.spellsMgmt 2 = true ∧ keys.Takes later ∧ keys.su.clock < later.word32 14 ∧
    keys.ks.sets[(12 : Fin 32)].way0 = some (key 12) ∧ keys.ks.sets[(12 : Fin 32)].way1 = some (key 44) ∧
    keys.ks.slot = some (key 76) ∧ (∃ p : Port, keys.serviceGroup p = some 12) ∧ (∃ p : Port, keys.serviceGroup p = some 44) ∧
    suite.ks.sets[(12 : Fin 32)].way0 = none ∧ suite.Takes later := by simp only [takes_mgmt]; decide +kernel
theorem witness_PurgesAndExpiriesMiss :
    keys.ks.StoreLaw ∧ keys.SlotLaw ∧ (mgmt [0, 5, 3, 3, 254]).spellsPurge false = true ∧ keys.Takes (mgmt [0, 5, 3, 3, 254]) ∧
    (mgmt [0, 5, 3, 3, 254]).word16 3 ≤ 1022 ∧ (mgmt [0, 5, 3, 255, 255, 1]).spellsPurge true = true ∧
    keys.Takes (mgmt [0, 5, 3, 255, 255, 1]) ∧ keys.ks.expiryOf 76 .a = some 102600 := by simp only [takes_mgmt]; decide +kernel
theorem witness_StayOpenSetsTheNewGuest :
    (mgmt [0, 5, 6]).spellsMgmt 6 = true ∧ suite.Takes (mgmt [0, 5, 6]) ∧ suite.su.occupancy = .occupied ∧
    room.Takes (mgmt [0, 5, 6]) ∧ room.su.occupancy ≠ .occupied ∧ room.port 3 = .off := by simp only [takes_mgmt]; decide +kernel
theorem witness_StayCloseSettlesTheStay :
    (mgmt [0, 5, 7]).spellsMgmt 7 = true ∧ buyer.Takes (mgmt [0, 5, 7]) ∧ buyer.su.occupancy = .occupied ∧
    buyer.PurchaseLaw ∧ buyer.pu.purchases = [bought] ∧ room.Takes (mgmt [0, 5, 7]) ∧ room.su.occupancy ≠ .occupied := by simp only [takes_mgmt]; decide +kernel
theorem witness_RoomSettingsWriteEverySetting :
    (mgmt [0, 5, 8]).spellsMgmt 8 = true ∧ suite.Takes (mgmt [0, 5, 8]) ∧ suite.port 3 = .off := by simp only [takes_mgmt]; decide +kernel
theorem witness_ClockMarkSetsTheClock :
    let at_ := mgmt [0, 5, 1, 0, 1, 134, 160]
    let ahead := mgmt [0, 5, 1, 0, 1, 134, 161]
    at_.spellsMgmt 1 = true ∧ suite.Takes at_ ∧ at_.word32 3 ≤ suite.su.clock ∧ ahead.spellsMgmt 1 = true ∧
    suite.Takes ahead ∧ suite.su.clock < ahead.word32 3 ∧ (∀ d ∈ suite.dueEvents, ahead.word32 3 < d.1) ∧
    lock.ks.StoreLaw ∧ lock.PurchaseLaw ∧ lock.su.clock < 4294967295 ∧ (103000, .unlock 0) ∈ lock.dueEvents := by
  simp only [takes_mgmt]; decide +kernel
theorem witness_LocalSecondAccrues :
    (∀ d ∈ buyer.dueEvents, min (buyer.su.clock + 1) 4294967295 < d.1) ∧ (buyer.port 2).state = .preview ∧
    (buyer.port 2).home = some 31 ∧ buyer.entry 31 = some (film 5003 311 4) ∧ (buyer.port 0).state ≠ .preview := by
  decide +kernel
theorem witness_TimeRowsTouchOneField :
    suite.lu.lockout = none ∧ lockedOut.lu.lockout = some 100650 ∧ lockedOut.su.clock < 4294967295 ∧
    suite.port 2 = .active .preview 31 (some 311) .flowing (0 + 1) ∧ suite.port 1 = .blanked .locked 32 200 ∧
    (suite.port 0).state ≠ .blanked ∧ suite.port 3 = .off := by decide +kernel
theorem witness_UnlocksEnd :
    lock.lu.unlocks[(1 : Port)] = none ∧ lock.lu.unlocks[(0 : Port)] = some 103000 ∧ (req 0 [8]).spellsRequest 8 = true ∧
    lock.rl.unanswered < 8 ∧ (req 0 [8]).header[1].toNat = (0 : Port).val ∧ (req 3 [8]).header[1].toNat = (3 : Port).val ∧
    (lock.port 3).home = none ∧ (lock.port 0).home = some 32 ∧ lock.entry 32 = some (free 312 108 6) ∧ lock.lu.ceiling < 6 ∧
    lock.su.occupancy = .occupied ∧ lock.su.alert = none := by decide +kernel
theorem witness_DeskOrdersWriteTheLock :
    (∀ o ∈ [2, 6, 3, 4], (mgmt [0, 5, 9, o]).spellsMgmt 9 = true ∧ lock.Takes (mgmt [0, 5, 9, o])) ∧
    frozen.lu.frozen = true ∧ frozen.rl.unanswered < 8 ∧ (req 3 [5]).spellsRequest 5 = true ∧
    (req 3 [5]).header[1].toNat ≤ 3 ∧ pinOk (req 3 [5]) 3 = true ∧ (req 0 [6]).spellsRequest 6 = true ∧
    pinOk (req 0 [6]) 1 = true ∧ pinOk (req 0 [6]) 10 = true ∧ (req 0 [7]).spellsRequest 7 = true ∧
    pinOk (req 0 [7]) 2 = true ∧ (req 0 [8]).spellsRequest 8 = true ∧ (req 0 [8]).header[1].toNat = (0 : Port).val := by
  simp only [takes_mgmt]; decide +kernel
theorem witness_CeilingOrdersHoldThePorts :
    (∀ o ∈ [[1, 5], [1, 7], [1, 255], [5]], (mgmt ([0, 5, 9] ++ o)).spellsMgmt 9 = true ∧ lock.Takes (mgmt ([0, 5, 9] ++ o))) ∧
    lock.lu.ceiling = 5 ∧ (lock.port 0).home = some 32 ∧ (lock.port 0).state = .playing ∧
    lock.lu.unlocks[(0 : Port)] ≠ none ∧ lock.lu.unlocks[(1 : Port)] = none := by
  simp only [takes_mgmt]; decide +kernel
theorem witness_RightPinOpensTheLock :
    let unlock := req 3 [5, 0, 0, 4, 4, 7, 1, 1]
    let change := req 0 [6, 4, 4, 7, 1, 1, 0, 0, 0, 0, 4, 1, 2, 3, 4]
    lock.rl.unanswered < 8 ∧ lock.lu.frozen = false ∧ lock.su.clock < 4294967295 ∧ unlock.spellsRequest 5 = true ∧
    unlock.header[1].toNat = (3 : Port).val ∧ pinOk unlock 3 = true ∧ lock.lu.lockout = none ∧
    lock.lu.pin = some (pinField unlock 3) ∧ change.spellsRequest 6 = true ∧ pinOk change 1 = true ∧ pinOk change 10 = true ∧
    lock.su.occupancy = .occupied ∧ 4 ≤ (pinField change 10).length ∧ lock.lu.pin = some (pinField change 1) ∧
    (req 0 [7, 5]).spellsRequest 7 = true ∧ pinOk (req 0 [7, 5]) 2 = true ∧
    min (req 0 [7, 5]).body[1].toNat 7 = lock.lu.ceiling ∧ min (req 0 [7, 4]).body[1].toNat 7 < lock.lu.ceiling ∧
    lock.lu.ceiling < min (req 0 [7, 255, 4, 4, 7, 1, 1]).body[1].toNat 7 ∧
    lock.lu.pin = some (pinField (req 0 [7, 255, 4, 4, 7, 1, 1]) 2) := by decide +kernel
theorem witness_WrongPinCountsAFailure :
    let u := req 1 [5, 0, 30, 4, 1, 4, 7, 1]
    (failed 4).rl.unanswered < 8 ∧ (failed 4).lu.frozen = false ∧ (failed 4).su.clock < 4294967295 ∧
    (failed 4).lu.lockout = none ∧ (failed 4).lu.pin = some [4, 7, 1, 1] ∧ pinField u 3 ≠ [4, 7, 1, 1] ∧
    u.spellsRequest 5 = true ∧ u.header[1].toNat ≤ 3 ∧ pinOk u 3 = true ∧ (failed 4).lu.failures + 1 = 5 ∧
    (failed 3).lu.failures + 1 < 5 ∧ strict.lu.failures + 1 < 2 ∧ strict.lu.strict ≠ none ∧
    (req 0 [6, 4, 7, 1, 1, 4, 0, 0, 0, 0, 4, 2, 2, 2, 2]).spellsRequest 6 = true ∧
    pinField (req 0 [6, 4, 7, 1, 1, 4, 0, 0, 0, 0, 4, 2, 2, 2, 2]) 1 ≠ [4, 7, 1, 1] ∧
    4 ≤ (pinField (req 0 [6, 4, 7, 1, 1, 4, 0, 0, 0, 0, 4, 2, 2, 2, 2]) 10).length ∧
    (req 0 [7, 7]).spellsRequest 7 = true ∧ pinField (req 0 [7, 7]) 2 ≠ [4, 7, 1, 1] ∧
    lock.lu.ceiling < min (req 0 [7, 7]).body[1].toNat 7 := by decide +kernel
theorem witness_LockRequestsRefused :
    suite.rl.unanswered < 8 ∧ (req 3 [5]).spellsRequest 5 = true ∧ (req 3 [5]).header[1].toNat ≤ 3 ∧ pinOk (req 3 [5]) 3 = true ∧
    frozen.lu.frozen = true ∧ suite.lu.frozen = false ∧ suite.lu.pin = none ∧ lockedOut.lu.pin ≠ none ∧
    lockedOut.lu.lockout = some 100650 ∧ (req 0 [6]).spellsRequest 6 = true ∧ pinOk (req 0 [6]) 1 = true ∧
    pinOk (req 0 [6]) 10 = true ∧ room.su.occupancy ≠ .occupied ∧ lockedOut.su.occupancy = .occupied ∧
    (pinField (req 0 [6]) 10).length < 4 ∧ (req 0 [7, 6]).spellsRequest 7 = true ∧ pinOk (req 0 [7, 6]) 2 = true ∧
    lockedOut.lu.ceiling < min (req 0 [7, 6]).body[1].toNat 7 := by decide +kernel
theorem witness_HouseAlertTakesTheScreens :
    (mgmt [0, 5, 10, 2, 0, 1]).spellsMgmt 10 = true ∧ (mgmt [0, 5, 10, 2, 0, 1]).duration ≠ 0 ∧
    suite.Takes (mgmt [0, 5, 10, 2, 0, 1]) ∧ suite.su.clock < 4294967295 ∧ suite.su.alert = none ∧
    alarm.Takes (mgmt [0, 5, 10, 2, 0, 1]) ∧ alarm.su.alert = some { channel := 2, endTime := 100300 } ∧
    (2 : Channel) = Fin.ofNat 256 (mgmt [0, 5, 10, 2, 0, 1]).body[3].toNat ∧ alarm.Takes (mgmt [0, 5, 10, 3, 0, 1]) ∧
    (2 : Channel) ≠ Fin.ofNat 256 (mgmt [0, 5, 10, 3, 0, 1]).body[3].toNat := by simp only [takes_mgmt]; decide +kernel
theorem witness_AlertEndsAndPortsReturn :
    (mgmt [0, 5, 10]).spellsMgmt 10 = true ∧ (mgmt [0, 5, 10]).duration = 0 ∧ alarm.Takes (mgmt [0, 5, 10]) ∧
    alarm.su.alert ≠ none ∧ suite.su.alert = none ∧ suite.Takes (mgmt [0, 5, 10]) ∧ (alarm.port 0).state = .alert ∧
    (alarm.port 0).home = some 12 ∧ (alarm.port 3).state ≠ .alert := by simp only [takes_mgmt]; decide +kernel
def fullTable : State :=
  { suite with pu := { suite.pu with purchases := (List.range 8).map fun t => { bought with title := t } } }
def dear : State := { suite with su := { suite.su with spend := 19026 } }
theorem witness_RefusedPurchasesChangeNothing :
    let ask (c : Byte) := req 0 [3, 0, c]
    suite.rl.unanswered < 8 ∧ (ask 255).header[1].toNat = (0 : Port).val ∧ (ask 255).word16 1 ≤ 255 ∧
    (ask 255).spellsRequest 3 = true ∧ alarm.su.alert ≠ none ∧ suite.su.alert = none ∧ suite.entry 255 = none ∧
    room.su.occupancy ≠ .occupied ∧ (suite.entry 12).map (·.tier.title) = some none ∧
    suite.entry 34 = some (film 5002 314 6) ∧ suite.effectiveCeiling 0 < 6 ∧ suite.entry 30 = some (film 5001 310 4) ∧
    suite.purchase 5001 = none ∧ owing.bq.hold = true ∧ suite.bq.hold = false ∧ suite.pu.purchases.length < 8 ∧
    fullTable.purchase 5001 = none ∧ 8 ≤ fullTable.pu.purchases.length ∧ fullTable.bq.hold = false ∧
    (suite.price 4).map (fun e => dear.su.spend + e.charge dear.su.clock) = some 20001 ∧ dear.su.cap < 20001 ∧
    (req 0 [4]).spellsRequest 4 = true ∧ (suite.port 0).home.bind suite.titleOn = none ∧
    (buyer.setPort 0 (.active .playing 30 (some 310) .flowing 3000)).purchase 5001 = some bought ∧
    300 < 100301 - bought.start := by decide +kernel
theorem witness_SharedBuyCostsNothing :
    (req 3 [3, 0, 30]).spellsRequest 3 = true ∧ buyer.rl.unanswered < 8 ∧ (req 3 [3, 0, 30]).header[1].toNat = (3 : Port).val ∧
    (req 3 [3, 0, 30]).word16 1 ≤ 255 ∧ buyer.entry (Fin.ofNat 256 ((req 3 [3, 0, 30]).word16 1)) = some (film 5001 310 4) ∧
    (film 5001 310 4).tier = .film 5001 4 ∧ buyer.su.alert = none ∧ buyer.su.occupancy = .occupied ∧
    (film 5001 310 4).rating ≤ buyer.effectiveCeiling 3 ∧ buyer.purchase 5001 ≠ none := by decide +kernel
theorem witness_AcceptedBuyOpensThePurchase :
    let u := req 3 [3, 0, 30]
    u.spellsRequest 3 = true ∧ suite.rl.unanswered < 8 ∧ u.header[1].toNat = (3 : Port).val ∧ u.word16 1 ≤ 255 ∧
    suite.entry (Fin.ofNat 256 (u.word16 1)) = some (film 5001 310 4) ∧ (film 5001 310 4).tier = .film 5001 4 ∧
    (suite.price 4).map (fun e => suite.su.spend + e.charge suite.su.clock) = some 975 ∧ 975 ≤ suite.su.cap ∧
    suite.su.alert = none ∧ suite.su.occupancy = .occupied ∧ (film 5001 310 4).rating ≤ suite.effectiveCeiling 3 ∧
    suite.purchase 5001 = none ∧ suite.bq.hold = false ∧ suite.pu.purchases.length < 8 ∧ suite.su.silent = false ∧
    suite.su.clock < 4294967295 := by decide +kernel
theorem witness_CancelVoidsThePurchase :
    let s := buyer.setPort 3 (.active .playing 30 (some 310) .flowing 3000)
    (req 3 [4]).spellsRequest 4 = true ∧ s.rl.unanswered < 8 ∧ (req 3 [4]).header[1].toNat = (3 : Port).val ∧
    (s.port 3).home = some 30 ∧ s.titleOn 30 = some 5001 ∧ s.purchase 5001 = some bought ∧
    s.su.clock - bought.start ≤ 300 := by decide +kernel
theorem witness_WindowEndClosesThePurchase :
    suite.purchase 5001 = none ∧ buyer.purchase 5001 = some bought ∧
    0 < creditOf bought.charge bought.outage bought.window ∧ creditOf bought.charge 119 bought.window = 0 := by decide +kernel
theorem witness_CreditOfAnOutage : 600 ≤ 86400 ∧ 119 < 120 ∧ 120 ≤ 43200 ∧ 86400 ≤ 2 * 43200 ∧ 2 * 43199 < 86400 := by decide
theorem witness_ChargeOfAFilm : (1320 : Nat) > 360 ∧ 1034400 % 86400 / 60 = 1400 ∧ 65535 ≤ 65535 ∧ 250 ≤ 250 := by decide
theorem witness_PollsAndReturnUnits :
    let full : State := { owing with fi := { sending := some { count := 0, unit := suite.captureUnit }, nextCount := 1, dropped := 0,
                                             waiting := List.replicate 4 suite.captureUnit } }
    (mgmt [0, 5, 11, 1]).spellsMgmt 11 = true ∧ (mgmt [0, 5, 11, 1]).checkOk = true ∧ (mgmt [0, 5, 11, 1]).word16 0 ≠ 0 ∧
    (mgmt [0, 5, 11, 1]).word16 0 = owing.room.toNat ∧ (mgmt [0, 5, 11, 1]).body[3].toNat = 1 ∧
    (mgmt [0, 5, 11, 2]).body[3].toNat = 2 ∧ owing.fi.sending = none ∧ owing.fi.waiting = [] ∧ full.fi.sending ≠ none ∧
    4 ≤ full.fi.waiting.length ∧ full.fi.waiting = suite.captureUnit :: List.replicate 3 suite.captureUnit := by simp only [mgmt_checkOk]; decide +kernel
theorem witness_UnitsSentLayout :
    15 < 16 ∧ owing.su.stayNumber < 65536 ∧ owing.su.clock < 4294967296 ∧ owing.bq.queue.length ≤ 48 ∧
    owing.bq.nextSeq < 65536 ∧ owing.su.spend < 16777216 ∧ owing.su.cap < 16777216 ∧ owing.lu.ceiling ≤ 7 ∧
    owing.CounterLaw ∧ (∀ r ∈ owing.md.lastRefusal, r.clock < 4294967296) ∧
    (∀ c ∈ owing.su.lastClosed, c.net < 16777216) ∧ (∀ c ∈ owing.md.capture, c.clock < 4294967296) ∧
    (∀ r ∈ owing.bq.queue, r.stay < 65536 ∧ r.title < 65536 ∧ r.time < 4294967296 ∧ r.amount < 131072) ∧
    owing.bq.queue[3]? = some (record 65533 true) ∧ suite.report.ceiling < 256 ∧ suite.report.spend < 16777216 ∧
    suite.report.cap < 16777216 ∧ (∀ a ∈ alarm.report.alert, a.2 < 65536) ∧ (∀ n ∈ lockedOut.report.lockout, n < 65536) ∧
    (∀ p : Port, ∀ n ∈ lock.report.unlocks[p], n < 65536) := by decide +kernel
theorem witness_ReleaseRemovesFromTheHead :
    (mgmt [0, 5, 12, 255, 255]).spellsMgmt 12 = true ∧ (mgmt [0, 5, 12, 255, 255]).checkOk = true ∧
    (mgmt [0, 5, 12, 255, 255]).word16 0 ≠ 0 ∧ (mgmt [0, 5, 12, 255, 255]).word16 0 = owing.room.toNat ∧
    owing.bq.MarksLaw ∧ owing.bq.HoldLaw ∧ ∀ r ∈ owing.bq.queue, r.seq < 65536 := by simp only [mgmt_checkOk]; decide +kernel
theorem witness_ResetsTurnPortsOff :
    let e : ListEntry := { port := 1, channel := 33, tier := .free, rating := 2, entitled := true, priced := false, charge := 0,
                           offPeak := false, purchased := false, remaining := 0, previewLeft := 0 }
    let r : Reply := { port := 1, kind := 9, code := .ok, detail := 4, report := none }
    (mgmt [0, 5, 13]).spellsMgmt 13 = true ∧ suite.Takes (mgmt [0, 5, 13]) ∧ (req 0 [12]).spellsRequest 12 = true ∧
    listing.rl.unanswered < 8 ∧
    (let two : List (List LinkUnit × Reply) := [([.listEntry e], r), ([.listEntry e, .blank 0 .locked 32, .listEntry e], r)]
     ({ listing with rl := { listing.rl with
        transmit := [.listEntry e, .reply r, .listEntry e, .blank 0 .locked 32, .listEntry e, .reply r] } } : State).rl.transmit =
      (two.flatMap fun x => x.1 ++ [.reply x.2]) ++ []) ∧ r.kind = 9 ∧
    suite.rl.transmit = [] := by simp only [takes_mgmt]; decide +kernel
theorem witness_TuneFollowsTheDecision :
    let ask (c : Byte) := req 3 [1, 0, c]
    let full : State := { suite with pc := { suite.pc with
      previews := [5001, 5102, 5103, 5104, 5105, 5106, 5107, 5108].map fun t => { title := t, seconds := 1, bought := false } } }
    (ask 255).spellsRequest 1 = true ∧ suite.rl.unanswered < 8 ∧ (ask 255).header[1].toNat = (3 : Port).val ∧
    (ask 255).word16 1 ≤ 255 ∧ alarm.su.alert = some { channel := 2, endTime := 100300 } ∧ suite.su.alert = none ∧
    suite.entry 255 = none ∧ suite.SlotLaw ∧ room.su.occupancy ≠ .occupied ∧ room.entry 33 ≠ none ∧
    suite.entry 32 = some (free 312 108 6) ∧ suite.effectiveCeiling 3 < 6 ∧ suite.entry 12 = some (free 305 44 2) ∧
    (suite.entry 33).map (·.tier) = some (.package 3) ∧ suite.su.packages.getLsbD 3 = false ∧
    suite.entry 30 = some (film 5001 310 4) ∧ buyer.purchase 5001 ≠ none ∧ suite.purchase 5001 = none ∧
    suite.previewRecord 5001 = some { title := 5001, seconds := 120, bought := true } ∧
    (suite.price 4).map (·.preview) = some 120 ∧ full.previewRecord 5003 = none ∧ 8 ≤ full.pc.previews.length ∧
    ({ suite with pc := { suite.pc with previews := [] } } : State).previewRecord 5003 = none := by decide +kernel
theorem witness_OffAndTheQueries :
    suite.rl.unanswered < 8 ∧ (req 3 [2]).spellsRequest 2 = true ∧ (req 3 [2]).header[1].toNat = (3 : Port).val ∧
    suite.port 3 = .off ∧ suite.port 0 ≠ .off ∧ (req 0 [10]).spellsRequest 10 = true ∧
    (req 0 [10]).header[1].toNat = (0 : Port).val ∧ (req 255 [11]).spellsRequest 11 = true := by decide +kernel
theorem witness_ListComposesItsEntries :
    let u := req 3 [9, 0, 250, 16]
    u.spellsRequest 9 = true ∧ suite.rl.unanswered < 8 ∧ u.header[1].toNat = (3 : Port).val ∧ u.word16 1 ≤ 255 ∧
    1 ≤ u.body[3].toNat ∧ u.body[3].toNat ≤ 16 := by decide +kernel
theorem witness_LinkUnitLeaves :
    let r : LinkUnit := .reply { port := 0, kind := 11, code := .ok, detail := 0, report := none }
    let n : LinkUnit := .blank 0 .locked 3
    let held : State := { busy with rl := { busy.rl with transmit := n :: busy.rl.transmit } }
    suite.rl.transmit = [] ∧ listing.rl.held = [] ∧ listing.rl.transmit ≠ [] ∧ busy.rl.transmit = r :: List.replicate 7 r ∧
    busy.rl.held = req 0 [2] :: [] ∧ r.isReply = true ∧ busy.rl.unanswered = 8 ∧
    Instr.off (req 0 [2]) ∈ requestRows (req 0 [2]) ∧ (Instr.off (req 0 [2])).wellFormed = true ∧ n.isReply = false ∧
    8 ≤ held.rl.unanswered := by decide +kernel
theorem witness_RequestsAreChecked :
    [Instr.unknownRequestKind (req 0 [13]), .tune (req 4 [1]), .tune (req 0 [1, 1, 0]), .off (req 4 [2]), .buy (req 0 [3, 1, 0]),
      .cancel (req 4 [4]), .pinUnlock (req 0 [5, 0, 0, 9]), .pinSet (req 0 [6, 1, 10]), .ceiling (req 0 [7, 0, 9]),
      .relock (req 4 [8]), .list (req 0 [9, 0, 0, 17]), .queryPort (req 4 [10])].all (·.wellFormed) = true ∧
    Instr.off (req 4 [2]) ∈ requestRows (req 4 [2]) ∧ 8 ≤ busy.rl.unanswered ∧ suite.rl.unanswered < 8 := by decide +kernel

/-- Every law that a statement says each step keeps holds in a busy room, at which a step answers a next state. -/
theorem witness_StepsKeepLinksAndCounters : (match step keys with | .next _ => true | _ => false) = true ∧
    keys.fi.ReturnLaw ∧ busy.rl.RequestLaw ∧ keys.SilenceLaw ∧ keys.CounterLaw := by decide +kernel
theorem witness_StepsKeepTheQueueAndTheMoney : buyer.ReserveLaw ∧ owing.bq.SequenceLaw ∧ buyer.MoneyLaw := by decide +kernel
theorem witness_StepsKeepTheLock : lockedOut.LockLaw ∧ lock.LockLaw := by decide +kernel
theorem witness_StepsKeepThePorts : alarm.PortLaw ∧ suite.PortLaw ∧ suite.PreviewLaw := by decide +kernel
theorem witness_StepsKeepStreamsAndTimers : suite.StreamLaw ∧ alarm.StreamLaw ∧ suite.TimerLaw := by decide +kernel
theorem witness_StepsKeepTheKeyStore : keys.ks.StoreLaw ∧ keys.SlotLaw := by decide +kernel
theorem witness_StepsKeepTablesAndDueTimes : keys.TableLaw ∧ keys.ks.StoreLaw ∧ keys.DueLaw ∧ lock.DueLaw := by decide +kernel

end Sys2Proof.Tests
end

section
/-! How MD takes a management unit, in the words of the statements: the bytes of the unit, the destinations of R27, a
refusal of R30, and the rows as runs of `State.manage`. -/

namespace Sys2Proof

/-! ## The bytes of a unit (R171, R172) -/

theorem Unit96.byte_eq_getElem (u : Unit96) {n : Nat} (h : n < 88) : u.byte n = u.body[n] := by
  simp [Unit96.byte, h]

theorem Unit96.word16_eq_getElem (u : Unit96) {n : Nat} (h : n + 1 < 88) :
    u.word16 n = u.body[n].toNat * 256 + u.body[n + 1].toNat := by
  rw [Unit96.word16, u.byte_eq_getElem h, u.byte_eq_getElem (Nat.lt_of_succ_lt h)]

end Sys2Proof

namespace Sys2Proof.Machine

theorem destination_eq (u : Unit96) : destination u = u.body[0].toNat * 256 + u.body[1].toNat :=
  u.word16_eq_getElem (by decide)

/-! ## The destination (R27) -/

/-- R27: the three kinds of destination that a part takes. -/
theorem State.accepts_iff (s : State) (u : Unit96) : s.accepts u = true ↔
    destination u = 0 ∨ (1 ≤ destination u ∧ destination u ≤ 16383 ∧ destination u = s.room.toNat) ∨
      (16384 ≤ destination u ∧ destination u ≤ 16639 ∧ s.room.toNat ≠ 0 ∧ destination u - 16384 = s.su.group.val) := by
  have unassigned : s.room = 0 ↔ s.room.toNat = 0 := BitVec.toNat_inj.symm
  unfold State.accepts
  generalize destination u = d
  dsimp only
  split_ifs with everyRoom oneRoom oneGroup
  · simp [everyRoom]
  · rw [beq_iff_eq]
    omega
  · rw [Bool.and_eq_true, bne_iff_ne, beq_iff_eq, ne_eq, unassigned]
    omega
  · simp only [false_iff]
    omega

/-! ## Refusals (R30, R35) -/

/-- R30: a refusal that keeps the burst. -/
theorem State.refuse_eq_refusedMd (s : State) (u : Unit96) (r : RefusalReason) :
    s.refuse u r = { s with md := s.refusedMd u r false } := by
  simp only [State.refuse, State.refusedMd, raiseCounter, kindByte, Unit96.byte_eq_getElem, Nat.reduceLT]
  rfl

/-- R30, R35: a refusal after the burst's close. -/
theorem State.closeBurst_refuse_eq_refusedMd (s : State) (u : Unit96) (r : RefusalReason) :
    s.closeBurst.refuse u r = { s with md := s.refusedMd u r true } :=
  s.closeBurst.refuse_eq_refusedMd u r

/-! ## The rows (R31) -/

theorem asRow_spelled {spelled : Bool} (h : spelled = true) (s : State) : asRow spelled s = .next s := by
  rw [h, asRow_true]

/-- R25, R31: every management row, on a unit that spells it, is MD's taking of the unit for some owner. -/
theorem exec_managementRow {u : Unit96} {c : Instr} (h : c ∈ managementRows u) (spelled : c.wellFormed = true) :
    ∃ (row : MgmtRow) (owner : State → State), ∀ s, exec c s = .next (s.manage u row owner) := by
  simp only [managementRows, List.mem_cons, List.not_mem_nil, or_false] at h
  rcases h with rfl | rfl | rfl | rfl | rfl | rfl | rfl | rfl | rfl | rfl | rfl | rfl | rfl | rfl | rfl | rfl | rfl |
    rfl | rfl | rfl | rfl | rfl <;> exact ⟨_, _, fun s => asRow_spelled spelled _⟩

/-- Settles O10: the destination is read once (`State.accepts_iff`), and MD leaves a unit of another destination before
any row's owner sees it (`exec_managementRow`, `State.manage_ignored`). -/
theorem destinationDecidesAcceptance : Obligations.DestinationDecidesAcceptance := by
  intro u s c row spelled check d meant
  have taken : meant ↔ s.Takes u := by
    rw [State.Takes, and_iff_right check, s.accepts_iff, destination_eq]
  refine ⟨taken, fun other => ?_⟩
  have ignored : s.accepts u = false := Bool.eq_false_iff.mpr fun accepted => other (taken.mpr ⟨check, accepted⟩)
  obtain ⟨_, owner, run⟩ := exec_managementRow row spelled
  rw [run, State.manage_ignored _ owner check ignored]

end Sys2Proof.Machine
end

section
/-! TABLE_OPEN (R33): the table a unit names, and the window taken or refused. -/

namespace Sys2Proof.Machine

/-- R172, TABLE_OPEN: the code of a table. -/
def Table.code : Table → Nat
  | .service => 1
  | .price => 2
  | .remap => 3

theorem tableField_of_code {u : Unit96} {t : Table} (h : u.body[3].toNat = t.code) : tableField u = some t := by
  rw [← u.byte_eq_getElem (by decide)] at h
  cases t <;> simp only [tableField, h, Table.code]

/-- R33: a window inside its table opens a burst with the pointer at the first index. -/
theorem State.openBurst_inside {s : State} {u : Unit96} {t : Table} (ordered : u.body[4].toNat ≤ u.body[5].toNat)
    (inside : u.body[5].toNat ≤ t.lastIndex) :
    s.openBurst u t = { s with md := { s.md with
      burst := some {
        table := t, first := u.body[4].toNat, last := u.body[5].toNat, pointer := u.body[4].toNat, tag := u.body[6] } } } := by
  simp only [State.openBurst, Unit96.byte_eq_getElem, Nat.reduceLT]
  exact if_pos ⟨ordered, inside⟩

/-- R33: any other window is refused. -/
theorem State.openBurst_outside {s : State} {u : Unit96} {t : Table}
    (h : u.body[5].toNat < u.body[4].toNat ∨ t.lastIndex < u.body[5].toNat) : s.openBurst u t = s.refuse u .bounds := by
  simp only [State.openBurst, Unit96.byte_eq_getElem, Nat.reduceLT]
  exact if_neg (by omega)

/-- R31, R33, R35: an accepted TABLE_OPEN that names a table closes the open burst and asks for its window. -/
theorem exec_tableOpen {u : Unit96} {s : State} {t : Table} (spelled : u.spellsMgmt 4 = true) (taken : s.Takes u)
    (named : tableField u = some t) : exec (.tableOpen u) s = .next (s.closeBurst.openBurst u t) := by
  obtain ⟨check, accepted⟩ := taken
  have run : exec (.tableOpen u) s = .next (s.manage u ⟨true, false, (tableField u).isSome⟩
      fun b => b.openBurst u ((tableField u).getD .service)) := asRow_spelled spelled _
  rw [run, State.manage_taken _ check accepted (by simp [named]) (by simp)]
  simp [named]

/-- Settles O13: the burst has closed before the window is looked at (`exec_tableOpen`), so what is left is the window's
test against the table that the unit names. -/
theorem tableOpenTakesItsWindow : Obligations.TableOpenTakesItsWindow := by
  intro u s table spelled taken code first last highest opened
  have named : tableField u = some table := tableField_of_code (by cases table <;> exact code)
  have top : highest = table.lastIndex := by cases table <;> rfl
  rw [exec_tableOpen spelled taken named, top]
  constructor
  · intro ordered inside
    rw [State.openBurst_inside ordered inside]
    rfl
  · intro outside
    rw [State.openBurst_outside outside, State.closeBurst_refuse_eq_refusedMd]

end Sys2Proof.Machine
end

section
/-! The keystream of a lane (R73 to R76): its values as whole numbers, and each clear byte from the received byte at its
place. -/

namespace Sys2Proof.Machine

/-! ## The inputs of the keystream (R73, R74) -/

theorem seedOf_toNat (word : BitVec 64) : (seedOf word).toNat = word.toNat / 4294967296 := by
  have high : word.toNat / 4294967296 < 4294967296 := by omega
  rw [seedOf, BitVec.extractLsb'_toNat, Nat.shiftRight_eq_div_pow, Nat.mod_eq_of_lt high]

theorem maskOf_toNat (word : BitVec 64) : (maskOf word).toNat = word.toNat % 4294967296 :=
  BitVec.extractLsb'_toNat 0 32 word

theorem keyStart_toNat (seed : BitVec 32) (count stream : Nat) :
    (keyStart seed count stream).toNat = (seed.toNat + 4096 * count + stream) % 4294967296 := by
  rw [keyStart, BitVec.toNat_add, BitVec.toNat_ofNat, Nat.add_mod_mod, Nat.add_assoc]

/-! ## The recurrence (R75) -/

theorem keyStep_toNat (x : BitVec 32) : (keyStep x).toNat = (x.toNat * 3182915629 + 40503) % 4294967296 := by
  rw [keyStep, BitVec.toNat_add, BitVec.toNat_mul, BitVec.toNat_ofNat, BitVec.toNat_ofNat, Nat.mul_mod_mod, Nat.mod_add_mod,
    Nat.add_mod_mod]

@[simp] theorem keyValue_zero (x0 : BitVec 32) : keyValue x0 0 = x0 := rfl

@[simp] theorem keyValue_succ (x0 : BitVec 32) (i : Nat) : keyValue x0 (i + 1) = keyStep (keyValue x0 i) := rfl

theorem keyValue_toNat (x0 : BitVec 32) (i : Nat) : (keyValue x0 i).toNat = streamValue x0.toNat i := by
  induction i with
  | zero => rfl
  | succ i ih => rw [keyValue_succ, keyStep_toNat, ih, streamValue]

/-- The sequence from x(1) is the sequence from x(0), one place on. -/
theorem keyValue_keyStep (x : BitVec 32) (i : Nat) : keyValue (keyStep x) i = keyValue x (i + 1) := by
  induction i with
  | zero => simp
  | succ i ih => rw [keyValue_succ, ih, keyValue_succ x (i + 1)]

/-! ## The keystream bytes (R76) -/

theorem keyByte_toNat (mask x : BitVec 32) (i : Nat) :
    (keyByte mask x i).toNat = x.toNat / 16777216 ^^^ mask.toNat / 256 ^ (i % 4) % 256 := by
  have top : x.toNat / 16777216 < 256 := by omega
  have place : 2 ^ (8 * (i % 4)) = 256 ^ (i % 4) := Nat.pow_mul 2 8 (i % 4)
  simp only [keyByte, BitVec.toNat_xor, BitVec.extractLsb'_toNat, Nat.shiftRight_eq_div_pow, place, Nat.reducePow,
    Nat.mod_eq_of_lt top]

/-- From body byte k on, x being x(k): the byte i places further takes the value i + 1 places further and the mask byte
of its place in the body. -/
theorem getElem?_clearFrom (mask x : BitVec 32) (k : Nat) (bytes : List Byte) (i : Nat) :
    (clearFrom mask x k bytes)[i]? = bytes[i]?.map (· ^^^ keyByte mask (keyValue x (i + 1)) (k + i)) := by
  induction bytes generalizing x k i with
  | nil => rfl
  | cons b bs ih =>
    cases i with
    | zero => rfl
    | succ i =>
      rw [clearFrom, List.getElem?_cons_succ, List.getElem?_cons_succ, ih, keyValue_keyStep, Nat.add_assoc k, Nat.add_comm 1]

theorem getElem_clearBody (word : BitVec 64) (u : Unit96) (i : Fin 88) : (clearBody word u)[i] =
    u.body[i] ^^^ keyByte (maskOf word) (keyValue (keyStart (seedOf word) u.count u.stream) (i.val + 1)) i.val := by
  simp [clearBody, List.getD_eq_getElem?_getD, getElem?_clearFrom]

/-- Settles O8: the clear byte at its place (`getElem_clearBody`), with the keystream's inputs, its recurrence and its
bytes each read as whole numbers. -/
theorem keystreamFormula : Obligations.KeystreamFormula := by
  intro word u i seed mask count stream x0
  have start : (keyStart (seedOf word) u.count u.stream).toNat = x0 := by
    rw [keyStart_toNat, seedOf_toNat]
    rfl
  rw [getElem_clearBody, BitVec.toNat_xor, keyByte_toNat, keyValue_toNat, start, maskOf_toNat]

end Sys2Proof.Machine
end

section
/-! The charge of a film (R144, R145): the day minute and the off-peak band, the base price, the rounded tax and their
sum's bound. -/

namespace Sys2Proof.Machine

/-! ## The day minute and the band (R144) -/

theorem dayMinute_le (clock : Nat) : dayMinute clock ≤ 1439 := by
  have second : clock % 86400 < 86400 := Nat.mod_lt _ (by decide)
  rw [dayMinute]
  omega

/-- R144: the plain band and the wrapped one; equal ends fit neither, so their band is empty. -/
theorem inBand_iff (bandStart bandEnd m : Nat) : inBand bandStart bandEnd m = true ↔
    (bandStart < bandEnd ∧ bandStart ≤ m ∧ m < bandEnd) ∨ (bandEnd < bandStart ∧ (bandStart ≤ m ∨ m < bandEnd)) := by
  obtain plain | same | wrapped := Nat.lt_trichotomy bandStart bandEnd
  · simp [inBand, plain, plain.not_gt]
  · simp [inBand, same]
  · simp [inBand, wrapped, wrapped.not_gt]

/-! ## The base price (R144) -/

theorem PriceEntry.base_of_isOffPeak {e : PriceEntry} {clock : Nat} (cheap : e.isOffPeak clock = true) :
    e.base clock = e.offPeak := if_pos cheap

theorem PriceEntry.base_of_not_isOffPeak {e : PriceEntry} {clock : Nat} (dear : ¬ e.isOffPeak clock = true) :
    e.base clock = e.standard := if_neg dear

theorem PriceEntry.base_le {e : PriceEntry} {bound : Nat} (standard : e.standard ≤ bound) (offPeak : e.offPeak ≤ bound)
    (clock : Nat) : e.base clock ≤ bound := by
  by_cases cheap : e.isOffPeak clock = true
  · rwa [base_of_isOffPeak cheap]
  · rwa [base_of_not_isOffPeak cheap]

/-! ## The tax (R145) -/

/-- R145: the tax is the only whole number from half a unit below the exact tax (left out) to half a unit above it, so a
remainder of exactly one half rounds up. -/
theorem taxOn_rounds_half_up (base rate : Nat) : 2 * (base * rate) < 1000 * (2 * taxOn base rate + 1) ∧
    1000 * (2 * taxOn base rate) ≤ 2 * (base * rate) + 1000 := by
  have below : 1000 * taxOn base rate ≤ base * rate + 500 := Nat.mul_div_le _ _
  have above : base * rate + 500 < 1000 * (taxOn base rate + 1) := Nat.lt_mul_div_succ _ (by decide)
  omega

theorem taxOn_mono {base rate base' rate' : Nat} (bases : base ≤ base') (rates : rate ≤ rate') :
    taxOn base rate ≤ taxOn base' rate' :=
  Nat.div_le_div_right (Nat.add_le_add_right (Nat.mul_le_mul bases rates) 500)

/-! ## The charge (R145) -/

/-- R145: the greatest charge is that of the greatest base price at the greatest rate. -/
theorem PriceEntry.charge_le {e : PriceEntry} {bound rate : Nat} (standard : e.standard ≤ bound)
    (offPeak : e.offPeak ≤ bound) (tax : e.tax ≤ rate) (clock : Nat) : e.charge clock ≤ bound + taxOn bound rate :=
  have base := base_le standard offPeak clock
  Nat.add_le_add base (taxOn_mono base tax)

/-- Settles O42: the band is `inBand_iff` at the day minute, the base price follows it, the tax on it is rounded by
`taxOn_rounds_half_up`, and the bound is `PriceEntry.charge_le` at 65,535 and 250 thousandths. -/
theorem chargeOfAFilm : Obligations.ChargeOfAFilm := by
  intro e clock m band
  have offPeak : band ↔ e.isOffPeak clock = true := (inBand_iff e.bandStart e.bandEnd m).symm
  obtain ⟨above, below⟩ := taxOn_rounds_half_up (e.base clock) e.tax
  exact ⟨dayMinute_le clock, offPeak, e.base clock, taxOn (e.base clock) e.tax,
    fun inside => PriceEntry.base_of_isOffPeak (offPeak.mp inside),
    fun outside => PriceEntry.base_of_not_isOffPeak (mt offPeak.mpr outside),
    above, below, rfl, fun standard reduced rate => PriceEntry.charge_le standard reduced rate clock⟩

end Sys2Proof.Machine
end

section
/-! RELEASE (R160): the records that leave the head of the billing queue, the hold flag after them (R155), and the end of
SETTLING (R5). -/

namespace Sys2Proof.Machine

/-! ## The tests on the head (R160) -/

/-- R160: the model adds 65,536 before it subtracts, so that its natural-number difference is the rule's, taken modulo
65,536 over the integers. -/
theorem BillingRecord.releasable_iff {r : BillingRecord} (numbered : r.seq < 65536) (n : Nat) :
    r.releasable n = true ↔ r.sent = true ∧ ((n : Int) - (r.seq : Int)) % 65536 < 48 := by
  have distance : (n + 65536 - r.seq) % 65536 < 48 ↔ ((n : Int) - (r.seq : Int)) % 65536 < 48 := by omega
  rw [BillingRecord.releasable, Bool.and_eq_true, decide_eq_true_iff, distance]

/-! ## The hold flag (R155) -/

/-- R155: a removal can only clear the flag, because a clear flag keeps the depth below the high mark. -/
theorem holdTest_of_removal {high low depth : Nat} {hold : Bool} (marks : low < high)
    (clear : hold = false → depth < high) : holdTest high low depth hold = (hold && decide (low < depth)) := by
  cases hold with
  | false => simp [holdTest, Nat.not_le.mpr (clear rfl)]
  | true =>
    by_cases deep : low < depth
    · simp [holdTest, deep]
    · have below : ¬ high ≤ depth := by omega
      simp [holdTest, below, Nat.le_of_not_lt deep]

/-- The depth after the first removal is above the low mark where the depth after the last one is. -/
theorem stays_above_low {α : Type} {low : Nat} {queue gone rest : List α} (split : gone ++ rest = queue) :
    (decide (low < queue.length) && (gone.isEmpty || decide (low < rest.length))) = decide (low < rest.length) := by
  subst split
  cases gone with
  | nil => simp
  | cons r gone =>
    have shorter : low < rest.length → low < (r :: gone ++ rest).length := by
      rw [List.length_append]
      omega
    simpa using shorter

/-! ## The removals (R160) -/

/-- R155, R160: the records that pass leave until the first that does not, and the flag is as the last removal has it. -/
theorem releaseFrom_eq {high low n : Nat} {queue : List BillingRecord} {hold : Bool} (marks : low < high)
    (clear : hold = false → queue.length < high) : releaseFrom high low n queue hold =
      (queue.dropWhile (·.releasable n), hold && ((queue.takeWhile (·.releasable n)).isEmpty ||
        decide (low < (queue.dropWhile (·.releasable n)).length))) := by
  induction queue generalizing hold with
  | nil => simp [releaseFrom]
  | cons r rs ih =>
    by_cases passes : r.releasable n = true
    · have shorter : hold = false → rs.length < high := fun h => Nat.lt_of_succ_lt (clear h)
      have clear' : (hold && decide (low < rs.length)) = false → rs.length < high := by
        cases hold with
        | false => exact fun _ => shorter rfl
        | true => simpa using fun h => Nat.lt_of_le_of_lt h marks
      rw [releaseFrom, if_pos passes, holdTest_of_removal marks shorter, ih clear', Bool.and_assoc,
        stays_above_low List.takeWhile_append_dropWhile]
      simp [passes]
    · simp [releaseFrom, passes]

/-- R155, R160: a RELEASE of n takes a run of passing records from the head, up to the first that fails. -/
theorem BillingQueue.release_takes_from_head {bq : BillingQueue} (marks : bq.MarksLaw) (law : bq.HoldLaw) (n : Nat) :
    ∃ gone, bq.queue = gone ++ (bq.release n).queue ∧ (∀ r ∈ gone, r.releasable n = true) ∧
      (∀ r, (bq.release n).queue.head? = some r → r.releasable n = false) ∧
      bq.release n = { bq with
        queue := (bq.release n).queue
        hold := bq.hold && (gone.isEmpty || decide (bq.low < (bq.release n).queue.length)) } := by
  obtain ⟨_, _, marks⟩ := marks
  rw [BillingQueue.release, releaseFrom_eq marks law]
  refine ⟨bq.queue.takeWhile (·.releasable n), List.takeWhile_append_dropWhile.symm, fun r => List.mem_takeWhile_imp,
    fun r head => ?_, rfl⟩
  have fails := List.head?_dropWhile_not (·.releasable n) bq.queue
  rwa [head] at fails

/-! ## The end of SETTLING (R5) -/

@[simp] theorem State.releaseTo_bq (s : State) (n : Nat) : (s.releaseTo n).bq = s.bq.release n := by
  unfold State.releaseTo
  dsimp only
  split <;> rfl

/-- R5: a RELEASE changes the queue and, where records leave a SETTLING room's queue empty, the occupancy. -/
theorem State.releaseTo_eq (s : State) {n : Nat} {gone : List BillingRecord}
    (removed : s.bq.queue = gone ++ (s.bq.release n).queue) : s.releaseTo n = { s with
      bq := s.bq.release n
      su := { s.su with occupancy :=
        if gone ≠ [] ∧ (s.bq.release n).queue = [] ∧ s.su.occupancy = .settling then .vacant
        else s.su.occupancy } } := by
  have ends : (!s.bq.queue.isEmpty && (s.bq.release n).queue.isEmpty && s.su.occupancy == .settling) = true ↔
      gone ≠ [] ∧ (s.bq.release n).queue = [] ∧ s.su.occupancy = .settling := by
    by_cases empty : (s.bq.release n).queue = []
    · rw [removed, empty, List.append_nil]
      simp
    · simp [empty]
  unfold State.releaseTo
  dsimp only
  split_ifs with emptied kept kept
  · rfl
  · exact absurd (ends.mp emptied) kept
  · exact absurd (ends.mpr kept) emptied
  · rfl

/-! ## The row (R29, R31, R35) -/

/-- R27, R31: a unit with the room's own number reaches the room and is addressed to it. -/
theorem State.addressed_of_destination {s : State} {u : Unit96} (assigned : destination u ≠ 0)
    (own : destination u = s.room.toNat) : s.accepts u = true ∧ s.addressedToRoom u = true := by
  have inRange : s.room.toNat < 16384 := s.room.isLt
  refine ⟨s.accepts_iff u |>.mpr (.inr (.inl ⟨by omega, by omega, own⟩)), ?_⟩
  rw [State.addressedToRoom, Bool.and_eq_true, bne_iff_ne, beq_iff_eq]
  exact ⟨assigned, own⟩

theorem exec_release {u : Unit96} {s : State} (spelled : u.spellsMgmt 12 = true) (check : u.checkOk = true)
    (assigned : destination u ≠ 0) (own : destination u = s.room.toNat) :
    exec (.release u) s = .next (s.closeBurst.releaseTo (releaseSeq u)) := by
  obtain ⟨accepted, addressed⟩ := State.addressed_of_destination assigned own
  have run : exec (.release u) s = .next (s.manage u ⟨true, true, true⟩ fun b => b.releaseTo (releaseSeq u)) :=
    asRow_spelled spelled _
  rw [run, State.manage_taken _ check accepted rfl fun _ => addressed]
  rfl

/-- Settles O46: the unit reaches the queue (`exec_release`), the queue's part is
`BillingQueue.release_takes_from_head` with its test read by `BillingRecord.releasable_iff`, and the
occupancy is `State.releaseTo_eq`'s. -/
theorem releaseRemovesFromTheHead : Obligations.ReleaseRemovesFromTheHead := by
  intro u s spelled check assigned own marks law numbered passes
  have test_iff : ∀ r ∈ s.bq.queue, r.releasable (releaseSeq u) = true ↔ passes r :=
    fun r member => BillingRecord.releasable_iff (numbered r member) (releaseSeq u)
  obtain ⟨gone, removed, passed, stopped, queue⟩ := BillingQueue.release_takes_from_head marks law (releaseSeq u)
  have wasGone : ∀ r ∈ gone, r ∈ s.bq.queue := fun r left => removed ▸ List.mem_append_left _ left
  have wasHead : ∀ r, (s.bq.release (releaseSeq u)).queue.head? = some r → r ∈ s.bq.queue :=
    fun r head => removed ▸ List.mem_append_right gone (List.mem_of_mem_head? head)
  refine ⟨s.closeBurst.releaseTo (releaseSeq u), gone, exec_release spelled check assigned own, ?_⟩
  rw [State.releaseTo_bq, State.closeBurst_bq]
  exact ⟨removed, fun r left => (test_iff r (wasGone r left)).mp (passed r left),
    fun r head => mt (test_iff r (wasHead r head)).mpr (Bool.eq_false_iff.mp (stopped r head)),
    queue, s.closeBurst.releaseTo_eq removed⟩

end Sys2Proof.Machine
end

section
/-! What a command can do, said once: the events that the rows of the table run (`Event`, `Registers`), and the shape
of a step as a chain of them (`Shape`), with the room link's own bookkeeping (R164, R167) apart from both. -/

namespace Sys2Proof.Machine

/-! ## The events -/

/-- One whole event of a row, without the place of its units in the transmit list. -/
inductive Event (s : State) : State → Prop
  | deliver (u : Unit96) : Event s (s.deliver u)
  | countFault : Event s { s with sf := { s.sf with formatFaults := raiseCounter s.sf.formatFaults } }
  | failCheck (u : Unit96) : Event s (s.failCheck u)
  | refuse (u : Unit96) (r : RefusalReason) : Event s (s.refuse u r)
  | closeBurst : Event s s.closeBurst
  | openBurst (u : Unit96) (t : Table) : Event s (s.openBurst u t)
  | takeEntry (u : Unit96) (t : Table) (i : Nat) : Event s (State.takeEntry u t s i)
  | mark (t : Nat) (range : t ≤ clockMax) : Event s (s.mark t)
  | loadKey (group : Nat) (phase : KeyPhase) (k : PhaseKey) (u : Unit96) (held : group ≤ 1022)
      (range : k.expiry ≤ clockMax) : Event s (s.loadKey group phase k u)
  | purge (group : Nat) : Event s ({ s with ks := s.ks.purge group } : State).migrate
  | clearKeys : Event s { s with ks := s.ks.clear }
  | openStay (u : Unit96) (closed : s.isOccupied = false) : Event s (s.openStay (stayOpenFields u))
  | closeStay (occupied : s.isOccupied = true) : Event s s.closeStay
  | settings (u : Unit96) : Event s (s.applySettings (settingsFields u))
  | setCeiling (value : Nat) (range : value ≤ 7) : Event s (s.setCeiling value)
  | endUnlocks : Event s s.endUnlocks
  | clearPin : Event s { s with lu := s.lu.clearPin }
  | cutLockout : Event s { s with lu := { s.lu with lockout := none } }
  | freeze (frozen : Bool) : Event s { s with lu := { s.lu with frozen := frozen } }
  | orderAlert (channel : Channel) (seconds : Nat) (positive : 0 < seconds) :
      Event s (s.orderAlert { channel := channel, endTime := holdDue (s.su.clock + seconds) }).settleHeld
  | endAlert : Event s s.endAlert
  | handReturn (r : ReturnUnit) : Event s (s.handReturn r)
  | endReturn : Event s s.endReturn
  | release (n : Nat) : Event s (s.releaseTo n)
  | resetRoom : Event s s.resetRoom
  | second : Event s s.second
  | silent : Event s s.fallSilent
  | expireKey (group : Nat) (phase : KeyPhase) : Event s (s.expireKey group phase)
  | endUnlock (p : Port) : Event s (s.endUnlock p)
  | endLockout (due : Nat) (locked : s.lu.lockout = some due) : Event s (s.endLockout due).settleHeld
  | endStrict : Event s s.endStrict
  | endWindow (e : Purchase) (bought : s.purchase e.title = some e) : Event s (s.endWindow e e.windowEnd)
  | expireSignal (p : Port) : Event s (s.expireSignal p)
  | expireCadence (p : Port) : Event s (s.expireCadence p)
  | millisecond : Event s s.millisecond
  | sends (l : List LinkUnit) (quiet : ∀ u ∈ l, u.isReply = false) :
      Event s { s with rl := { s.rl with transmit := s.rl.transmit ++ l } }
  | tune (p : Port) (c : Channel) : Event s ((s.tunePort p c).announce s).migrate
  | off (p : Port) : Event s (s.turnOff s p).migrate
  | void (e : Purchase) (bought : s.purchase e.title = some e) : Event s (s.voidPurchase e)
  | forgive (unlocked : s.lu.lockout = none) : Event s { s with lu := { s.lu with failures := 0 } }
  | storePin (pin : List Nat) (occupied : s.isOccupied = true) (unlocked : s.lu.lockout = none) (long : 4 ≤ pin.length)
      (short : pin.length ≤ 8) (digits : ∀ d ∈ pin, d ≤ 9) : Event s { s with lu := s.lu.storePin pin }
  | linkOff : Event s (({ s with lu := s.lu.endUnlocks } : State).turnAllOff s).migrate

/-- The requests whose due time may be held at the clock's last value, so that what falls due follows their reply (R10). -/
inductive Registers (s : State) : State → Prop
  | unlock (p : Port) (seconds : Nat) (positive : 0 < seconds) (unlocked : s.lu.lockout = none) :
      Registers s (s.unlockPort p seconds)
  | wrongPin (pin : s.lu.pin ≠ none) (unlocked : s.lu.lockout = none) : Registers s s.wrongPin.1
  | buy (p : Port) (c : Channel) (passes : s.buyRefusal p c = none) : Registers s (s.acceptBuy p c)

/-- Events one after another. -/
abbrev Events : State → State → Prop := Relation.ReflTransGen Event

theorem Event.chain {s t : State} (h : Event s t) : Events s t := .single h

/-! ## The room link's bookkeeping (R164, R167) -/

/-- R164: the count of unanswered requests, the units held back and the replies that wait are the same. -/
structure RoomLink.SameReplies (a b : RoomLink) : Prop where
  unanswered : b.unanswered = a.unanswered
  held       : b.held = a.held
  replies    : b.transmit.countP (·.isReply) = a.transmit.countP (·.isReply)

/-- R167: the states differ in the transmit list and the free choices alone, and the same replies wait. -/
structure Relinked (s t : State) : Prop where
  state   : t = { s with rl := t.rl, choices := t.choices }
  replies : s.rl.SameReplies t.rl

/-- R163, R164: a request that has been counted runs its events, and one reply follows; then what falls due at the clock's
last value, where the request registered it. -/
inductive Answered (s t : State) : Prop
  | plain {m : State} (r : Reply) (events : Events s m) (link : Relinked (m.send (.reply r)) t)
  | settled {m : State} (r : Reply) (registers : Registers s m) (link : Relinked (m.send (.reply r)).settleHeld t)

/-- R167: the oldest unit of the list begins. -/
def State.leave (s : State) (u : LinkUnit) (us : List LinkUnit) : State :=
  { s with rl := { s.rl with
    transmit := us
    sending := some u
    ahead := s.rl.ahead - 1
    unanswered := if u.isReply then s.rl.unanswered - 1 else s.rl.unanswered } }

/-- What a command leaves. -/
inductive Shape (s : State) : State → Prop
  | powerOn (strap : BitVec 14) : Shape s (s.powerOn strap)
  | events {m t : State} (events : Events s m) (link : Relinked m t) : Shape s t
  | heldBack (u : Unit96) (full : 8 ≤ s.rl.unanswered) : Shape s { s with rl := { s.rl with held := s.rl.held ++ [u] } }
  | answered {t : State} (room : s.rl.unanswered < 8) (answered : Answered s.countRequest t) : Shape s t
  | idle (empty : s.rl.transmit = []) : Shape s { s with rl := { s.rl with sending := none } }
  | left (u : LinkUnit) (us : List LinkUnit) (waits : s.rl.transmit = u :: us)
      (keeps : s.rl.held = [] ∨ 8 ≤ (s.leave u us).rl.unanswered) : Shape s (s.leave u us)
  | took (u : LinkUnit) (us : List LinkUnit) (waits : s.rl.transmit = u :: us) {x : Unit96} {xs : List Unit96}
      (held : s.rl.held = x :: xs) (room : (s.leave u us).rl.unanswered < 8) {t : State}
      (answered : Answered ({ s.leave u us with rl := { (s.leave u us).rl with held := xs } } : State).countRequest t) :
      Shape s t

end Sys2Proof.Machine
end

section
/-! The plain writes that every event is made of (`Act`), each a whole in which no other happens, so that a law that reads
only what a write leaves is kept by every event. -/

namespace Sys2Proof

/-! ## The ranges of a unit's fields (R171) -/

theorem Unit96.word16_lt (u : Unit96) (n : Nat) : u.word16 n < 65536 := by
  have := (u.byte n).isLt
  have := (u.byte (n + 1)).isLt
  unfold Unit96.word16
  omega

theorem Unit96.word32_lt (u : Unit96) (n : Nat) : u.word32 n < 4294967296 := by
  have := u.word16_lt n
  have := u.word16_lt (n + 2)
  unfold Unit96.word32
  omega

end Sys2Proof

namespace Sys2Proof.Machine

/-- One write of the part. -/
inductive Act (s : State) : State → Prop
  | link (l : List LinkUnit) (c : Choices) (quiet : ∀ u ∈ l, u.isReply = false) :
      Act s { s with rl := { s.rl with transmit := s.rl.transmit ++ l }, choices := c }
  -- PC
  | port (p : Port) (r : PortRecord) (timed : (s.port p).timed = true → r.timed = true) : Act s (s.setPort p r)
  | allOff : Act s { s with pc := { s.pc with ports := Vector.replicate 4 .off } }
  | joinPreview (r : Preview) (fresh : s.previewRecord r.title = none) : Act s (s.joinPreview r)
  | previews (f : Preview → Preview) (title : ∀ r, (f r).title = r.title) :
      Act s { s with pc := { s.pc with previews := s.pc.previews.map f } }
  -- SF, MD and TM
  | countFault : Act s { s with sf := { s.sf with formatFaults := raiseCounter s.sf.formatFaults } }
  | remap (i : Fin 8) (e : Option RemapEntry) (lawful : ∀ x ∈ e, x.lawful = true) :
      Act s { s with sf := { s.sf with remap := s.sf.remap.set i e } }
  | failCheck (u : Unit96) : Act s (s.failCheck u)
  | refuse (u : Unit96) (r : RefusalReason) : Act s (s.refuse u r)
  | burst (b : Option Burst) (lawful : (∀ x ∈ s.md.burst, x.lawful = true) → ∀ x ∈ b, x.lawful = true) :
      Act s { s with md := { s.md with burst := b } }
  | dropEntry : Act s s.dropEntry
  | service (c : Channel) (e : Option Service) (lawful : ∀ x ∈ e, x.lawful = true) :
      Act s { s with tm := { s.tm with services := s.tm.services.set c e } }
  | price (k : PriceCode) (e : Option PriceEntry) (lawful : ∀ x ∈ e, x.lawful = true) : Act s (s.writePrice k e)
  -- KS
  | lookupMark (group : Nat) : Act s { s with ks := s.ks.lookupMark group }
  | placeKey (group : Nat) (phase : KeyPhase) (k : PhaseKey) (held : group ≤ 1022) :
      Act s { s with ks := s.placeKey group phase k }
  | purge (group : Nat) : Act s { s with ks := s.ks.purge group }
  | dropPhase (group : Nat) (phase : KeyPhase) : Act s { s with ks := s.ks.dropPhase group phase }
  | clearKeys : Act s { s with ks := s.ks.clear }
  | migrate : Act s s.migrate
  -- FI
  | handReturn (r : ReturnUnit) : Act s (s.handReturn r)
  | endReturn : Act s s.endReturn
  -- LU
  | unlocks (v : Vector (Option Nat) 4) : Act s { s with lu := { s.lu with unlocks := v } }
  | ceiling (value : Nat) (range : value ≤ 7) : Act s { s with lu := { s.lu with ceiling := value } }
  | clearPin : Act s { s with lu := s.lu.clearPin }
  | cutLockout : Act s { s with lu := { s.lu with lockout := none } }
  | freeze (frozen : Bool) : Act s { s with lu := { s.lu with frozen := frozen } }
  | forgive (unlocked : s.lu.lockout = none) : Act s { s with lu := { s.lu with failures := 0 } }
  | storePin (pin : List Nat) (occupied : s.isOccupied = true) (unlocked : s.lu.lockout = none) (long : 4 ≤ pin.length)
      (short : pin.length ≤ 8) (digits : ∀ d ∈ pin, d ≤ 9) : Act s { s with lu := s.lu.storePin pin }
  | countFailure (pin : s.lu.pin ≠ none) (unlocked : s.lu.lockout = none)
      (below : (s.lu.countFailure s.su.clock).failures ≠ (s.lu.countFailure s.su.clock).budget) :
      Act s { s with lu := s.lu.countFailure s.su.clock }
  | startLockout (pin : s.lu.pin ≠ none) :
      Act s { s with lu := ((s.lu.countFailure s.su.clock).startLockout s.su.clock).endUnlocks }
  | endLockout (due : Nat) {x : Nat} (locked : s.lu.lockout = some x) : Act s (s.endLockout due)
  | endStrict : Act s s.endStrict
  -- SU, PU and BQ
  | tick : Act s { s with su := s.su.tickClock.countSilence }
  | setClock (t : Nat) : Act s { s with su := { s.su with clock := t } }
  | ignoreMark : Act s { s with su := { s.su with marksIgnored := raiseCounter s.su.marksIgnored } }
  | breakSilence : Act s s.breakSilence
  | silent : Act s s.fallSilent
  | alert (a : Option Alert) : Act s (s.setAlert a)
  | openStay (u : Unit96) (closed : s.isOccupied = false) : Act s { s with
      su := { s.su with
        stayNumber := nextStay s.su.stayNumber
        spend := 0
        cap := (stayOpenFields u).cap
        packages := (stayOpenFields u).packages
        discretion := (stayOpenFields u).discretion
        occupancy := .occupied }
      lu := s.lu.forGuest (stayOpenFields u).ceiling (stayOpenFields u).freeze
      pc := { s.pc with previews := [] }
      pu := { s.pu with silentCount := 0 } }
  | closeAll : Act s s.closeAll
  | endStay (closed : s.pu.purchases = []) : Act s { s with
      lu := s.lu.afterStay
      pc := { s.pc with previews := [] }
      su := { s.su with
        lastClosed := some { stay := s.su.stayNumber, net := s.su.spend }
        occupancy := if s.bq.queue.isEmpty then .vacant else .settling } }
  | settings (u : Unit96) : Act s { s with
      su := { s.su with
        group := (settingsFields u).group
        cap := (settingsFields u).cap
        discretion := (settingsFields u).discretion
        packages := (settingsFields u).packages
        vacantFirst := (settingsFields u).vacantFirst
        vacantLast := (settingsFields u).vacantLast
        restarted := false }
      bq := { s.bq with
        high := (settingsFields u).high
        low := (settingsFields u).low
        hold := holdTest (settingsFields u).high (settingsFields u).low s.bq.queue.length s.bq.hold }
      md := if (settingsFields u).clearCapture then { s.md with capture := none } else s.md }
  | buy (e : Purchase) (occupied : s.isOccupied = true) (fresh : s.purchase e.title = none) (open' : s.bq.hold = false)
      (room : s.pu.purchases.length < purchaseMax) (cap : s.su.spend + e.charge ≤ s.su.cap) :
      Act s ((({ s with pu := { s.pu with purchases := s.pu.purchases ++ [e] } } : State).raiseSpend e.charge).bill e
        .purchase e.charge s.su.clock)
  | countSilentBuy (silent : s.su.silent = true) (below : s.pu.silentCount < silentBuyMax) :
      Act s { s with pu := { s.pu with silentCount := s.pu.silentCount + 1 } }
  | void (e : Purchase) (bought : s.purchase e.title = some e) :
      Act s (((s.removePurchase e.title).lowerSpend e.charge).bill e .void e.charge s.su.clock)
  | close (e : Purchase) (time : Nat) (bought : s.purchase e.title = some e) : Act s (s.closePurchase e time)
  | accrueOutage : Act s s.accrueOutage
  | release (n : Nat) : Act s (s.releaseTo n)

/-- Writes one after another. -/
abbrev Acts : State → State → Prop := Relation.ReflTransGen Act

theorem Act.chain {s t : State} (h : Act s t) : Acts s t := .single h

/-- A property that every write keeps is kept by any number of them. -/
theorem Acts.keep {P : State → Prop} (act : ∀ s t, Act s t → P s → P t) {s t : State} (h : Acts s t) (p : P s) : P t := by
  induction h with
  | refl => exact p
  | tail _ step ih => exact act _ _ step ih

/-- A fold of operations that are each made of writes. -/
theorem Acts.foldl {α : Type} {f : State → α → State} (one : ∀ s a, Acts s (f s a)) :
    ∀ (l : List α) (s : State), Acts s (l.foldl f s)
  | [], _ => .refl
  | a :: l, s => (one s a).trans (Acts.foldl one l (f s a))

/-! ## The transmit list and the free choices -/

theorem LinkUnit.isReply_of_portOf {u : LinkUnit} (h : u.portOf.isSome = true) : u.isReply = false := by
  cases u with
  | reply r => cases h
  | programme | blank | notice | listEntry => rfl

theorem State.choices_acts (s : State) (c : Choices) : Acts s { s with choices := c } := by
  have := (Act.link (s := s) [] c (by simp)).chain
  simpa using this

theorem State.send_acts (s : State) (u : LinkUnit) (h : u.isReply = false) : Acts s (s.send u) :=
  (Act.link [u] s.choices (by simpa using h)).chain

theorem State.sendData_acts (s : State) (u : LinkUnit) (h : u.isReply = false) : Acts s (s.sendData u) := by
  unfold State.sendData
  split
  · exact s.send_acts u h
  · exact .refl

theorem State.notifyChange_acts (s before : State) (p : Port) : Acts s (s.notifyChange before p) := by
  unfold State.notifyChange
  split
  · exact .refl
  · exact s.send_acts _ rfl

theorem State.announce_acts (s before : State) : Acts s (s.announce before) := by
  obtain ⟨l, quiet, link⟩ := (s.announce_ports before).link
  have eq : s.announce before =
      { s with rl := { s.rl with transmit := s.rl.transmit ++ l }, choices := (s.announce before).choices } := by
    rw [← link]
    have frame := s.announce_ports before
    have pc := s.announce_pc before
    cases h : s.announce before
    rw [h] at frame pc
    obtain ⟨su, fi, sf, md, tm, ks, lu, pu, bq, room, pending, -⟩ := frame
    simp only at su fi sf md tm ks lu pu bq room pending pc
    subst su fi sf md tm ks lu pu bq room pending pc
    rfl
  rw [eq]
  exact (Act.link l _ fun u m => LinkUnit.isReply_of_portOf (quiet u m)).chain

/-! ## The ports -/

theorem State.activeRecord_timed (s : State) (p : Port) (v : View) (c : Channel) (h : (s.port p).timed = true) :
    (s.activeRecord p v c).timed = true := by
  unfold State.activeRecord
  split
  · next e => rw [e] at h; exact h
  · simp [PortRecord.timed, signalMs]
  · simp [PortRecord.timed, signalMs]

theorem PortRecord.blankedFor_timed (old : PortRecord) (r : BlankReason) (c : Channel) (h : old.timed = true) :
    (old.blankedFor r c).timed = true := by
  unfold PortRecord.blankedFor
  split
  · exact h
  · simp [PortRecord.timed, blankMs]

theorem State.startPreview_acts (s : State) (c : Channel) : Acts s (s.startPreview c) := by
  unfold State.startPreview
  split
  · exact .refl
  · split
    · exact .refl
    · next h => exact (Act.joinPreview _ (by simpa using h)).chain

theorem State.placeActive_acts (s : State) (p : Port) (v : View) (c : Channel) : Acts s (s.placeActive p v c) := by
  have placed : Acts s (s.setPort p (s.activeRecord p v c)) := (Act.port p _ (s.activeRecord_timed p v c)).chain
  unfold State.placeActive
  dsimp only
  split
  · exact placed.trans (State.startPreview_acts _ c)
  · exact placed

theorem State.applyDecision_acts (s : State) (p : Port) (c : Channel) (d : Decision) : Acts s (s.applyDecision p c d) := by
  cases d with
  | alert => exact s.placeActive_acts p .alert c
  | absent => exact .refl
  | blank r => exact (Act.port p _ ((s.port p).blankedFor_timed r c)).chain
  | playing => exact s.placeActive_acts p .playing c
  | preview => exact s.placeActive_acts p .preview c

theorem State.reevaluatePort_acts (s : State) (p : Port) : Acts s (s.reevaluatePort p) := by
  unfold State.reevaluatePort
  split
  · exact .refl
  · split
    · exact s.applyDecision_acts p _ _
    · exact s.applyDecision_acts p _ _

theorem State.reevaluateEach_acts (s : State) (test : Port → Bool) : Acts s (s.reevaluateEach test) :=
  (s.choices_acts _).trans (Acts.foldl (fun t p => t.reevaluatePort_acts p) _ _)

theorem State.reevaluate_acts (s before : State) (p : Port) : Acts s (s.reevaluate before p) :=
  (s.reevaluatePort_acts p).trans (State.announce_acts _ before)

theorem State.reevaluateWhere_acts (s before : State) (test : Port → Bool) : Acts s (s.reevaluateWhere before test) :=
  (s.reevaluateEach_acts test).trans (State.announce_acts _ before)

theorem State.migrate_acts (s : State) : Acts s s.migrate := Act.migrate.chain

/-- R63, R88: the end of an event that re-evaluates ports. -/
theorem State.reevaluated_acts (s before : State) (test : Port → Bool) :
    Acts s (s.reevaluateWhere before test).migrate :=
  (s.reevaluateWhere_acts before test).trans (State.migrate_acts _)

theorem State.reevaluatedAll_acts (s before : State) : Acts s (s.reevaluateAll before).migrate :=
  s.reevaluated_acts before _

theorem State.reevaluatedTitle_acts (s before : State) (title : Nat) :
    Acts s (s.reevaluateTitle before title).migrate :=
  s.reevaluated_acts before _

theorem State.turnOff_acts (s before : State) (p : Port) : Acts s (s.turnOff before p) :=
  (Act.port p .off fun _ => rfl).chain.trans (State.announce_acts _ before)

theorem State.turnAllOff_acts (s before : State) : Acts s (s.turnAllOff before) :=
  Act.allOff.chain.trans (State.announce_acts _ before)

theorem State.restream_acts (s : State) (p : Port) : Acts s (s.restream p) := by
  unfold State.restream
  split
  · exact (Act.port p _ fun _ => by simp [PortRecord.timed, signalMs]).chain
  · exact .refl

theorem State.restreamAll_acts (s : State) : Acts s s.restreamAll := Acts.foldl (fun t p => t.restream_acts p) _ _

theorem State.restreamAlerts_acts (s : State) : Acts s s.restreamAlerts :=
  Acts.foldl (fun t p => by
    split
    · exact t.restream_acts p
    · exact .refl) _ _

theorem State.expireSignal_acts (s : State) (p : Port) : Acts s (s.expireSignal p) := by
  unfold State.expireSignal
  split
  · exact (Act.port p _ fun _ => rfl).chain.trans (State.notifyChange_acts _ s p)
  · exact .refl

theorem State.expireCadence_acts (s : State) (p : Port) : Acts s (s.expireCadence p) := by
  unfold State.expireCadence
  split
  · exact (Act.port p _ fun _ => rfl).chain.trans (State.sendData_acts _ _ rfl)
  · exact .refl

theorem State.portMillisecond_acts (s : State) (p : Port) : Acts s (s.portMillisecond p) := by
  unfold State.portMillisecond
  split
  · next h =>
    refine (Act.port p _ fun timed => ?_).chain
    rw [h] at timed
    simp only [PortRecord.timed, signalMs, Bool.and_eq_true, decide_eq_true_eq] at timed ⊢
    exact ⟨by omega, rfl⟩
  · exact s.expireSignal_acts p
  · next h =>
    refine (Act.port p _ fun timed => ?_).chain
    rw [h] at timed
    simp only [PortRecord.timed, blankMs, Bool.and_eq_true, decide_eq_true_eq] at timed ⊢
    omega
  · exact s.expireCadence_acts p
  · exact .refl

theorem State.millisecond_acts (s : State) : Acts s s.millisecond :=
  (s.choices_acts _).trans (Acts.foldl (fun t p => t.portMillisecond_acts p) _ _)

theorem State.enterAlert_acts (s : State) (p : Port) : Acts s (s.enterAlert p) := by
  unfold State.enterAlert
  split
  · exact .refl
  · exact s.placeActive_acts p .alert _

theorem State.overPreview_acts (s : State) (p : Port) : Acts s (s.overPreview p) := by
  unfold State.overPreview
  split
  · exact .refl
  · exact s.applyDecision_acts p _ _

theorem State.treatCopy_acts (s : State) (p : Port) (u : Unit96) : Acts s (s.treatCopy p u) := by
  have mark : Acts s (s.laneMark p u) := by
    unfold State.laneMark
    split
    · exact (Act.lookupMark _).chain
    · exact .refl
  have cleared : ∀ (t : State) (body : Vector Byte 88), Acts t (t.copyCleared p u body) := by
    intro t body
    unfold State.copyCleared
    split
    · exact ((Act.port p _ fun _ => by simp [PortRecord.timed, signalMs]).chain.trans
        (State.notifyChange_acts _ t p)).trans (State.sendData_acts _ _ rfl)
    · exact .refl
  have missed : ∀ t : State, Acts t (t.copyMissed p) := by
    intro t
    unfold State.copyMissed
    split
    · next h =>
      refine (Act.port p _ fun timed => ?_).chain.trans (State.notifyChange_acts _ t p)
      rw [h] at timed
      simp only [PortRecord.timed, Bool.and_eq_true] at timed ⊢
      exact ⟨timed.1, by simp⟩
    · exact .refl
  unfold State.treatCopy
  dsimp only
  split
  · exact mark.trans (cleared _ _)
  · exact mark.trans (missed _)

theorem State.deliver_acts (s : State) (u : Unit96) : Acts s (s.deliver u) := by
  unfold State.deliver
  split
  · exact .refl
  · exact (s.choices_acts _).trans (Acts.foldl (fun t p => t.treatCopy_acts p u) _ _)

/-! ## Due events (R10) -/

theorem mem_registered {e : DueEvent} {t : Option Nat} {d : Nat × DueEvent} :
    d ∈ registered e t ↔ t = some d.1 ∧ d.2 = e := by
  cases t with
  | none => simp [registered]
  | some t =>
    simp only [registered, List.mem_singleton, Option.some.injEq]
    constructor
    · rintro rfl; exact ⟨rfl, rfl⟩
    · rintro ⟨rfl, rfl⟩; rfl

/-- R10: what registers an event. -/
def State.Registered (s : State) (d : Nat × DueEvent) : Prop :=
  match d.2 with
  | .keyPhase g ph => ∃ x ∈ s.ks.entries, x.group = g ∧ ∃ k, x.phase ph = some k ∧ k.expiry ≠ 0 ∧ k.expiry = d.1
  | .unlock p => s.lu.unlocks[p] = some d.1
  | .lockout => s.lu.lockout = some d.1
  | .strict => s.lu.strict = some d.1
  | .window title => ∃ x ∈ s.pu.purchases, x.title = title ∧ x.windowEnd = d.1
  | .alert => ∃ a, s.su.alert = some a ∧ a.endTime = d.1

theorem mem_allPorts (p : Port) : p ∈ allPorts := by
  revert p
  decide

theorem KeyEntry.mem_dueEvents {x : KeyEntry} {d : Nat × DueEvent} : d ∈ x.dueEvents ↔
    ∃ ph k, d.2 = .keyPhase x.group ph ∧ x.phase ph = some k ∧ k.expiry ≠ 0 ∧ k.expiry = d.1 := by
  have one : ∀ ph, d ∈ registered (.keyPhase x.group ph)
      ((x.phase ph).bind fun k => if k.expiry = 0 then none else some k.expiry) ↔
      ∃ k, d.2 = .keyPhase x.group ph ∧ x.phase ph = some k ∧ k.expiry ≠ 0 ∧ k.expiry = d.1 := by
    intro ph
    rw [mem_registered]
    cases x.phase ph with
    | none => simp
    | some k =>
      by_cases zero : k.expiry = 0
      · simp [zero]
      · simp [zero, and_comm]
  simp only [KeyEntry.dueEvents, List.mem_flatMap, one]
  constructor
  · rintro ⟨ph, _, k, h⟩
    exact ⟨ph, k, h⟩
  · rintro ⟨ph, k, h⟩
    exact ⟨ph, by cases ph <;> simp, k, h⟩

/-- R10: the registered events are those that an owner's due time registers. -/
theorem State.mem_dueEvents {s : State} {d : Nat × DueEvent} : d ∈ s.dueEvents ↔ s.Registered d := by
  obtain ⟨due, e⟩ := d
  simp only [State.dueEvents, List.mem_append, List.mem_flatMap, KeyEntry.mem_dueEvents, mem_registered, List.mem_map,
    Prod.mk.injEq]
  cases e with
  | keyPhase g ph =>
    simp only [State.Registered, reduceCtorEq, and_false, exists_false, or_false, DueEvent.keyPhase.injEq]
    constructor
    · rintro ⟨x, m, ph', k, ⟨rfl, rfl⟩, h⟩
      exact ⟨x, m, rfl, k, h⟩
    · rintro ⟨x, m, rfl, k, h⟩
      exact ⟨x, m, ph, k, ⟨rfl, rfl⟩, h⟩
  | unlock p =>
    simp only [State.Registered, reduceCtorEq, and_false, false_and, exists_false, or_false, false_or, DueEvent.unlock.injEq]
    constructor
    · rintro ⟨q, _, h, rfl⟩
      exact h
    · exact fun h => ⟨p, mem_allPorts p, h, rfl⟩
  | lockout => simp [State.Registered]
  | strict => simp [State.Registered]
  | window title => simp [State.Registered, and_comm]
  | alert => simp [State.Registered]

theorem State.closePurchase_acts (s : State) (e : Purchase) (time : Nat) (h : s.purchase e.title = some e) :
    Acts s (s.closePurchase e time) := (Act.close e time h).chain

theorem State.endWindow_acts (s : State) (e : Purchase) (due : Nat) (h : s.purchase e.title = some e) :
    Acts s (s.endWindow e due) :=
  (s.closePurchase_acts e due h).trans (State.reevaluatedTitle_acts _ s _)

theorem State.endAlert_acts (s : State) : Acts s s.endAlert :=
  (Act.alert none).chain.trans (State.reevaluated_acts _ s _)

theorem State.endUnlock_acts (s : State) (p : Port) : Acts s (s.endUnlock p) := by
  unfold State.endUnlock
  split
  · exact ((Act.unlocks _).chain.trans (State.reevaluate_acts _ s p)).trans (State.migrate_acts _)
  · exact .refl

theorem State.expireKey_acts (s : State) (g : Nat) (ph : KeyPhase) : Acts s (s.expireKey g ph) :=
  (Act.dropPhase g ph).chain.trans (State.migrate_acts _)

/-- R125: an entry found for a title is found for its own. -/
theorem State.purchase_title {s : State} {title : Nat} {e : Purchase} (h : s.purchase title = some e) : e.title = title := by
  simpa using List.find?_some h

theorem State.takeDue_acts (s : State) (d : Nat × DueEvent) (h : s.Registered d) : Acts s (s.takeDue d.1 d.2) := by
  obtain ⟨due, e⟩ := d
  cases e with
  | keyPhase g ph => exact s.expireKey_acts g ph
  | unlock p => exact s.endUnlock_acts p
  | lockout => exact (Act.endLockout due h).chain
  | strict => exact Act.endStrict.chain
  | window title =>
    simp only [State.takeDue]
    split
    · next e bought => exact s.endWindow_acts e due (by rw [State.purchase_title bought]; exact bought)
    · exact .refl
  | alert => exact s.endAlert_acts

/-- R10: whatever `takeNext` does, it is nothing, or the taking of an event that is due, registered and of the earliest. -/
theorem State.takeNext_cases (s : State) : (s.dueNow = [] ∧ s.takeNext = s) ∨
    ∃ (d : Nat × DueEvent) (c : Choices), d ∈ s.dueNow ∧ (∀ d' ∈ s.dueNow, d.1 ≤ d'.1) ∧
      s.takeNext = ({ s with choices := c } : State).takeDue d.1 d.2 := by
  have due : ∀ d ∈ earliest s.dueNow, d ∈ s.dueNow ∧ ∀ d' ∈ s.dueNow, d.1 ≤ d'.1 := by
    intro d m
    simpa only [earliest, List.mem_filter, List.all_eq_true, decide_eq_true_eq] using m
  unfold State.takeNext
  split
  · next none =>
    refine .inl ⟨?_, rfl⟩
    by_contra some
    obtain ⟨d, m, least⟩ := s.dueNow.toFinset.exists_min_image (·.1) (List.toFinset_nonempty_iff _ |>.mpr some)
    have first : d ∈ earliest s.dueNow := by
      simpa only [earliest, List.mem_filter, List.all_eq_true, decide_eq_true_eq, List.mem_toFinset] using
        And.intro m least
    rw [none] at first
    exact List.not_mem_nil first
  · next d one => exact .inr ⟨d, s.choices, (due d (by simp [one])).1, (due d (by simp [one])).2, rfl⟩
  · next d ds _ many =>
    let draw := drawFrom (ds.length + 1) s.choices
    have chosen : (d :: ds).getD draw.1 d ∈ earliest s.dueNow := by
      rw [many, List.getD_eq_getElem?_getD]
      cases g : (d :: ds)[draw.1]? with
      | none => simp
      | some x => exact List.mem_of_getElem? g
    exact .inr ⟨_, draw.2, (due _ chosen).1, (due _ chosen).2, rfl⟩

theorem State.takeNext_acts (s : State) : Acts s s.takeNext := by
  obtain ⟨_, stays⟩ | ⟨d, c, m, _, takes⟩ := s.takeNext_cases
  · rw [stays]
  · rw [takes]
    have registered : s.Registered d := State.mem_dueEvents.mp (List.mem_filter.mp m).1
    exact (s.choices_acts c).trans (State.takeDue_acts _ d registered)

theorem State.takeDueUpTo_acts : ∀ (n : Nat) (s : State), Acts s (State.takeDueUpTo n s)
  | 0, _ => .refl
  | n + 1, s => s.takeNext_acts.trans (State.takeDueUpTo_acts n _)

theorem State.settleDue_acts (s : State) : Acts s s.settleDue := State.takeDueUpTo_acts _ s

theorem State.settleHeld_acts (s : State) : Acts s s.settleHeld := by
  unfold State.settleHeld
  split
  · exact s.settleDue_acts
  · exact .refl

/-! ## The local second and the clock (R8, R9) -/

theorem State.accruePreview_acts (s : State) : Acts s s.accruePreview := by
  have count : Acts s s.countPreview := (Act.previews _ fun r => by split <;> rfl).chain
  have spent : Acts s.countPreview ((allPorts.filter s.countPreview.previewSpent).foldl State.overPreview s.countPreview) :=
    Acts.foldl (fun t p => t.overPreview_acts p) _ _
  exact ((count.trans spent).trans (State.announce_acts _ s)).trans (State.migrate_acts _)

theorem State.accrue_acts (s : State) : Acts s s.accrue :=
  Act.accrueOutage.chain.trans (State.accruePreview_acts _)

theorem State.second_acts (s : State) : Acts s s.second := by
  unfold State.second
  dsimp only
  split
  · exact Act.tick.chain.trans (State.accrue_acts _)
  · exact (((Act.tick.chain.trans (State.choices_acts _ _)).trans (State.takeDueUpTo_acts _ _)).trans
      (State.accrue_acts _)).trans (State.settleDue_acts _)

theorem State.mark_acts (s : State) (t : Nat) : Acts s (s.mark t) := by
  unfold State.mark
  split
  · exact ((Act.setClock t).chain.trans (State.settleDue_acts _)).trans Act.breakSilence.chain
  · exact Act.ignoreMark.chain.trans Act.breakSilence.chain

/-! ## Tables -/

theorem tierField_title {code title : Nat} {package : Fin 16} {price : PriceCode} :
    ∀ t ∈ (tierField code package title price).title, t = title := by
  intro t h
  unfold tierField at h
  split at h <;> simp_all [Tier.title]

theorem serviceGroup_le (n : Nat) : (serviceGroup n).all (· ≤ 1022) = true := by
  unfold serviceGroup
  split
  · rfl
  · simp only [Option.all_some, decide_eq_true_eq]
    omega

/-- R36, R37: an entry as stored is within its ranges. -/
theorem serviceEntry_lawful (u : Unit96) (n : Nat) : ∀ e ∈ serviceEntry u n, e.lawful = true := by
  intro e h
  unfold serviceEntry at h
  dsimp only at h
  split at h
  · simp at h
  · next present =>
    obtain rfl := Option.some.inj h
    have stream : 1 ≤ u.word16 (n + 1) % 4096 ∧ u.word16 (n + 1) % 4096 ≤ 4094 := by
      simp only [Bool.or_eq_true, Bool.not_eq_true', beq_iff_eq, not_or] at present
      omega
    have title := u.word16_lt (n + 6)
    simp only [Service.lawful, Bool.and_eq_true, decide_eq_true_eq]
    refine ⟨⟨⟨stream, serviceGroup_le _⟩, by omega⟩, ?_⟩
    rw [Option.all_eq_true]
    intro t ht
    split at ht
    · simp [Tier.title] at ht
    · next zero =>
      have eq : t = u.word16 (n + 6) := tierField_title t ht
      have pos : t ≠ 0 := by
        rintro rfl
        generalize tierField _ _ _ _ = tier at ht zero
        cases tier <;> simp [Tier.title] at ht
        subst ht
        exact zero _ rfl
      simp only [Bool.and_eq_true, decide_eq_true_eq]
      omega

/-- R41, R42. -/
theorem priceEntry_lawful (u : Unit96) (n : Nat) : ∀ e ∈ priceEntry u n, e.lawful = true := by
  intro e h
  unfold priceEntry at h
  dsimp only at h
  split at h
  · simp at h
  · obtain rfl := Option.some.inj h
    have := u.word16_lt n
    have := u.word16_lt (n + 2)
    simp only [PriceEntry.lawful, Bool.and_eq_true, decide_eq_true_eq]
    simp only [clampTo]
    omega

/-- R22. -/
theorem remapEntry_lawful (u : Unit96) (n : Nat) : ∀ e ∈ remapEntry u n, e.lawful = true := by
  intro e h
  unfold remapEntry at h
  dsimp only at h
  split at h
  · simp at h
  · next present =>
    obtain rfl := Option.some.inj h
    simp only [Bool.or_eq_true, Bool.not_eq_true', beq_iff_eq, not_or] at present
    have first : u.word16 (n + 1) % 4096 < 4096 := Nat.mod_lt _ (by decide)
    have target : u.word16 (n + 5) % 4096 < 4096 := Nat.mod_lt _ (by decide)
    simp only [RemapEntry.lawful, Bool.and_eq_true, decide_eq_true_eq]
    simp only [clampRemapCount, clampTo]
    omega

theorem Burst.advance_lawful {b : Burst} (h : b.lawful = true) : ∀ x ∈ b.advance, x.lawful = true := by
  intro x hx
  unfold Burst.advance at hx
  split at hx
  · obtain rfl := Option.some.inj hx
    simp only [Burst.lawful, Bool.and_eq_true, decide_eq_true_eq] at h ⊢
    omega
  · simp at hx

theorem State.writeService_acts (s : State) (c : Channel) (e : Option Service) (lawful : ∀ x ∈ e, x.lawful = true) :
    Acts s (s.writeService c e) := by
  have stored := (Act.service (s := s) c e lawful).chain.trans (State.reevaluateWhere_acts _ s fun p =>
    ((({ s with tm := { s.tm with services := s.tm.services.set c e } } : State).port p).home == some c) &&
      !(({ s with tm := { s.tm with services := s.tm.services.set c e } } : State).port p).isAlert)
  unfold State.writeService
  dsimp only
  split
  · exact (stored.trans (State.restreamAlerts_acts _)).trans (State.migrate_acts _)
  · exact stored.trans (State.migrate_acts _)

theorem State.writeEntry_acts (s : State) (u : Unit96) (t : Table) (i index : Nat) : Acts s (s.writeEntry u t i index) := by
  cases t with
  | service =>
    unfold State.writeEntry
    exact s.writeService_acts _ _ (serviceEntry_lawful u _)
  | price =>
    unfold State.writeEntry
    exact (Act.price _ _ (priceEntry_lawful u _)).chain
  | remap =>
    unfold State.writeEntry State.writeRemap
    exact (Act.remap _ _ (remapEntry_lawful u _)).chain.trans (State.restreamAll_acts _)

@[simp] theorem State.writeEntry_md (s : State) (u : Unit96) (t : Table) (i index : Nat) :
    (s.writeEntry u t i index).md = s.md := by
  cases t with
  | service =>
    simp only [State.writeEntry, State.writeService]
    split <;> simp
  | price => rfl
  | remap =>
    unfold State.writeEntry State.writeRemap
    exact (State.restreamAll_ports _).md

theorem State.takeEntry_acts (s : State) (u : Unit96) (t : Table) (i : Nat) : Acts s (State.takeEntry u t s i) := by
  unfold State.takeEntry
  split
  · exact Act.dropEntry.chain
  · next b open' =>
    refine (s.writeEntry_acts u t i b.pointer).trans (Act.burst _ fun lawful => ?_).chain
    rw [State.writeEntry_md, open'] at lawful
    exact Burst.advance_lawful (lawful b rfl)

theorem State.openBurst_acts (s : State) (u : Unit96) (t : Table) : Acts s (s.openBurst u t) := by
  unfold State.openBurst
  dsimp only
  split
  · next inside =>
    refine (Act.burst _ fun _ x hx => ?_).chain
    obtain rfl := Option.some.inj hx
    simp only [Burst.lawful, Bool.and_eq_true, decide_eq_true_eq]
    exact ⟨⟨le_rfl, inside.1⟩, inside.2⟩
  · exact (Act.refuse u .bounds).chain

/-! ## The lock -/

theorem State.setCeiling_acts (s : State) (value : Nat) (range : value ≤ 7) : Acts s (s.setCeiling value) := by
  have set := (Act.ceiling (s := s) value range).chain
  unfold State.setCeiling
  dsimp only
  split
  · exact set
  · exact set.trans (State.reevaluatedAll_acts _ s)

theorem State.endUnlocks_acts (s : State) : Acts s s.endUnlocks :=
  (Act.unlocks _).chain.trans (State.reevaluated_acts _ s _)

theorem State.unlockPort_acts (s : State) (p : Port) (seconds : Nat) (unlocked : s.lu.lockout = none) :
    Acts s (s.unlockPort p seconds) :=
  (((Act.forgive unlocked).chain.trans (Act.unlocks _).chain).trans (State.reevaluate_acts _ s p)).trans
    (State.migrate_acts _)

theorem State.wrongPin_acts (s : State) (pin : s.lu.pin ≠ none) (unlocked : s.lu.lockout = none) : Acts s s.wrongPin.1 := by
  by_cases budget : (s.lu.countFailure s.su.clock).failures = (s.lu.countFailure s.su.clock).budget
  · simp only [State.wrongPin, if_pos budget]
    exact .trans (Act.startLockout pin).chain (State.reevaluated_acts _ s _)
  · simp only [State.wrongPin, if_neg budget]
    exact (Act.countFailure pin unlocked budget).chain

/-! ## The stay -/

/-- R140: no entry is left open. -/
theorem State.closeAll_purchases (s : State) : s.closeAll.pu.purchases = [] := by
  have insert : ∀ (e x : Purchase) (l : List Purchase), x ∈ insertPurchase e l ↔ x = e ∨ x ∈ l := by
    intro e x l
    induction l with
    | nil => simp [insertPurchase]
    | cons y l ih =>
      unfold insertPurchase
      split
      · simp
      · simp only [List.mem_cons, ih]; tauto
  have order : ∀ (x : Purchase) (l : List Purchase), x ∈ closureOrder l ↔ x ∈ l := by
    intro x l
    induction l with
    | nil => simp [closureOrder]
    | cons y l ih => rw [closureOrder, insert, ih, List.mem_cons]
  have run : ∀ (l : List Purchase) (t : State), (l.foldl (fun t e => t.closePurchase e s.su.clock) t).pu.purchases =
      t.pu.purchases.filter fun x => !l.any (·.title == x.title) := by
    intro l
    induction l with
    | nil => intro t; simp
    | cons e l ih =>
      intro t
      have one : (t.closePurchase e s.su.clock).pu.purchases = t.pu.purchases.filter (·.title != e.title) := by
        unfold State.closePurchase
        dsimp only
        split <;> rfl
      rw [List.foldl_cons, ih, one, List.filter_filter]
      refine List.filter_congr fun x _ => ?_
      rw [List.any_cons, Bool.not_or, Bool.and_comm, bne, BEq.comm]
  rw [State.closeAll, run, List.filter_eq_nil_iff]
  intro x m
  have : (closureOrder s.pu.purchases).any (·.title == x.title) = true :=
    List.any_eq_true.mpr ⟨x, (order x _).mpr m, by simp⟩
  simp [this]

theorem State.openStay_acts (s : State) (u : Unit96) (closed : s.isOccupied = false) :
    Acts s (s.openStay (stayOpenFields u)) :=
  (Act.openStay u closed).chain.trans (State.reevaluatedAll_acts _ s)

theorem State.closeStay_acts (s : State) : Acts s s.closeStay :=
  (Act.closeAll.chain.trans (Act.endStay s.closeAll_purchases).chain).trans (State.reevaluatedAll_acts _ s)

theorem State.applySettings_acts (s : State) (u : Unit96) : Acts s (s.applySettings (settingsFields u)) :=
  (Act.settings u).chain.trans (State.reevaluatedAll_acts _ s)

theorem State.resetRoom_acts (s : State) : Acts s s.resetRoom :=
  (((Act.alert none).chain.trans (State.turnAllOff_acts _ s)).trans (Act.burst none fun _ => by simp).chain).trans
    Act.clearKeys.chain

theorem State.orderAlert_acts (s : State) (a : Alert) : Acts s (s.orderAlert a) := by
  have set := (Act.alert (s := s) (some a)).chain
  unfold State.orderAlert
  split
  · exact (set.trans ((Acts.foldl (fun t p => t.enterAlert_acts p) _ _).trans (State.announce_acts _ s))).trans
      (State.migrate_acts _)
  · split
    · exact set
    · exact (set.trans ((State.restreamAlerts_acts _).trans (State.announce_acts _ s))).trans (State.migrate_acts _)

/-! ## Purchases -/

theorem State.takeUpPreview_acts (s : State) (title length : Nat) : Acts s (s.takeUpPreview title length) := by
  unfold State.takeUpPreview
  split
  · exact (Act.previews _ fun r => by split <;> rfl).chain
  · next fresh => exact (Act.joinPreview _ (by simpa using fresh)).chain

/-- R127 to R129: what an accepted BUY has passed. -/
theorem State.buyRefusal_none {s : State} {p : Port} {c : Channel} (h : s.buyRefusal p c = none) :
    ∃ (e : Service) (title : Nat) (k : PriceCode) (entry : PriceEntry), s.su.alert = none ∧ s.entry c = some e ∧
      s.isOccupied = true ∧ e.tier = .film title k ∧ e.rating ≤ s.effectiveCeiling p ∧ s.purchase title = none ∧
      s.bq.hold = false ∧ s.pu.purchases.length < purchaseMax ∧ (s.su.silent = true → s.pu.silentCount < silentBuyMax) ∧
      s.price k = some entry ∧ s.su.spend + entry.charge s.su.clock ≤ s.su.cap := by
  unfold State.buyRefusal at h
  split at h
  · simp at h
  next alert =>
  split at h
  · simp at h
  next e entry =>
  split at h
  · simp at h
  next occupied =>
  split at h
  swap
  · simp at h
  next title k film =>
  split_ifs at h with locked shared hold full silent
  split at h
  · simp at h
  next price found =>
  split_ifs at h with cap
  refine ⟨e, title, k, price, by simpa using alert, entry, by simpa using occupied, film, by omega, by simpa using shared,
    by simpa using hold, by omega, ?_, found, by simpa [withinCap] using cap⟩
  intro quiet
  simp only [quiet, Bool.true_and, decide_eq_true_eq] at silent
  omega

/-- R130, steps 1 to 5. -/
theorem State.recordBuy_acts (s : State) (e : Purchase) (n : Nat) (occupied : s.isOccupied = true)
    (fresh : s.purchase e.title = none) (open' : s.bq.hold = false) (room : s.pu.purchases.length < purchaseMax)
    (cap : s.su.spend + e.charge ≤ s.su.cap) (silent : s.su.silent = true → s.pu.silentCount < silentBuyMax) :
    Acts s (s.recordBuy e n) := by
  have bought := (Act.buy (s := s) e occupied fresh open' room cap).chain.trans (State.takeUpPreview_acts _ e.title n)
  unfold State.recordBuy
  dsimp only
  split
  · next quiet => exact bought.trans (Act.countSilentBuy (by simpa using quiet) (by simpa using silent quiet)).chain
  · exact bought

/-- R130, step 6. -/
theorem State.playTitle_acts (s before : State) (p : Port) (c : Channel) (title : Nat) :
    Acts s (s.playTitle before p c title) := by
  unfold State.playTitle
  exact ((s.applyDecision_acts p c _).trans (State.reevaluateEach_acts _ _)).trans
    ((State.announce_acts _ before).trans (State.migrate_acts _))

/-- R130: an accepted BUY is its records and then the playing of the title. -/
theorem State.acceptBuy_eq {s : State} {p : Port} {c : Channel} {e : Service} {title : Nat} {k : PriceCode}
    {entry : PriceEntry} (found : s.entry c = some e) (film : e.tier = .film title k) (price : s.price k = some entry) :
    s.acceptBuy p c =
      (s.recordBuy (s.newPurchase title k e.rating entry) entry.preview).playTitle s p c title := by
  obtain ⟨tier, stream, group, rating⟩ := e
  obtain rfl : tier = .film title k := film
  simp only [State.acceptBuy, found, price]

theorem State.acceptBuy_acts (s : State) (p : Port) (c : Channel) (passes : s.buyRefusal p c = none) :
    Acts s (s.acceptBuy p c) := by
  obtain ⟨e, title, k, entry, -, found, occupied, film, -, fresh, open', room, silent, price, cap⟩ :=
    State.buyRefusal_none passes
  rw [State.acceptBuy_eq found film price]
  exact (s.recordBuy_acts _ _ occupied fresh open' room cap silent).trans (State.playTitle_acts _ s p c title)

theorem State.voidPurchase_acts (s : State) (e : Purchase) (bought : s.purchase e.title = some e) :
    Acts s (s.voidPurchase e) := by
  unfold State.voidPurchase
  exact .trans (Act.void e bought).chain (State.reevaluatedTitle_acts _ s _)

/-! ## Every event -/

/-- Every event is made of plain writes. -/
theorem Event.acts {s t : State} (h : Event s t) : Acts s t := by
  cases h with
  | deliver u => exact s.deliver_acts u
  | countFault => exact Act.countFault.chain
  | failCheck u => exact (Act.failCheck u).chain
  | refuse u r => exact (Act.refuse u r).chain
  | closeBurst => exact (Act.burst none fun _ => by simp).chain
  | openBurst u t => exact s.openBurst_acts u t
  | takeEntry u t i => exact s.takeEntry_acts u t i
  | mark t => exact s.mark_acts t
  | loadKey group phase k u held =>
    unfold State.loadKey
    split
    · exact (Act.refuse u .expired).chain
    · exact (Act.placeKey group phase k held).chain
  | purge group => exact (Act.purge group).chain.trans (State.migrate_acts _)
  | clearKeys => exact Act.clearKeys.chain
  | openStay u closed => exact s.openStay_acts u closed
  | closeStay => exact s.closeStay_acts
  | settings u => exact s.applySettings_acts u
  | setCeiling value range => exact s.setCeiling_acts value range
  | endUnlocks => exact s.endUnlocks_acts
  | clearPin => exact Act.clearPin.chain
  | cutLockout => exact Act.cutLockout.chain
  | freeze frozen => exact (Act.freeze frozen).chain
  | orderAlert channel seconds => exact (s.orderAlert_acts _).trans (State.settleHeld_acts _)
  | endAlert => exact s.endAlert_acts
  | handReturn r => exact (Act.handReturn r).chain
  | endReturn => exact Act.endReturn.chain
  | release n => exact (Act.release n).chain
  | resetRoom => exact s.resetRoom_acts
  | second => exact s.second_acts
  | silent => exact Act.silent.chain
  | expireKey group phase => exact s.expireKey_acts group phase
  | endUnlock p => exact s.endUnlock_acts p
  | endLockout due locked => exact (Act.endLockout due locked).chain.trans (State.settleHeld_acts _)
  | endStrict => exact Act.endStrict.chain
  | endWindow e bought => exact s.endWindow_acts e _ bought
  | expireSignal p => exact s.expireSignal_acts p
  | expireCadence p => exact s.expireCadence_acts p
  | millisecond => exact s.millisecond_acts
  | sends l quiet => exact (Act.link l s.choices quiet).chain
  | tune p c => exact ((s.applyDecision_acts p c _).trans (State.announce_acts _ s)).trans (State.migrate_acts _)
  | off p => exact (s.turnOff_acts s p).trans (State.migrate_acts _)
  | void e bought => exact s.voidPurchase_acts e bought
  | forgive unlocked => exact (Act.forgive unlocked).chain
  | storePin pin occupied unlocked long short digits =>
    exact (Act.storePin pin occupied unlocked long short digits).chain
  | linkOff => exact ((Act.unlocks _).chain.trans (State.turnAllOff_acts _ s)).trans (State.migrate_acts _)

theorem Registers.acts {s t : State} (h : Registers s t) : Acts s t := by
  cases h with
  | unlock p seconds positive unlocked => exact s.unlockPort_acts p seconds unlocked
  | wrongPin pin unlocked => exact s.wrongPin_acts pin unlocked
  | buy p c passes => exact s.acceptBuy_acts p c passes

theorem Events.acts {s t : State} (h : Events s t) : Acts s t := by
  induction h with
  | refl => exact .refl
  | tail _ event ih => exact ih.trans event.acts

/-! ## The link under the writes -/

@[simp] theorem State.handReturn_rl (s : State) (r : ReturnUnit) : (s.handReturn r).rl = s.rl := by
  unfold State.handReturn
  split_ifs <;> rfl

@[simp] theorem State.endReturn_rl (s : State) : s.endReturn.rl = s.rl := by
  unfold State.endReturn
  split <;> rfl

@[simp] theorem State.closePurchase_rl (s : State) (e : Purchase) (time : Nat) : (s.closePurchase e time).rl = s.rl := by
  unfold State.closePurchase
  dsimp only
  split <;> rfl

@[simp] theorem State.closeAll_rl (s : State) : s.closeAll.rl = s.rl :=
  List.foldlRecOn (motive := fun t : State => t.rl = s.rl) _ _ rfl fun t ih e _ =>
    (State.closePurchase_rl t e s.su.clock).trans ih

@[simp] theorem State.releaseTo_rl (s : State) (n : Nat) : (s.releaseTo n).rl = s.rl := by
  unfold State.releaseTo
  dsimp only
  split <;> rfl

/-- R167: the writes of an event only add to the tail of the list, and no reply. -/
theorem Act.grows {s t : State} (h : Act s t) :
    ∃ l : List LinkUnit, (∀ u ∈ l, u.isReply = false) ∧ t.rl = { s.rl with transmit := s.rl.transmit ++ l } := by
  cases h with
  | link l c quiet => exact ⟨l, quiet, rfl⟩
  | migrate => exact ⟨[], by simp, by simp⟩
  | handReturn r => exact ⟨[], by simp, by simp⟩
  | endReturn => exact ⟨[], by simp, by simp⟩
  | closeAll => exact ⟨[], by simp, by simp⟩
  | close e time => exact ⟨[], by simp, by simp⟩
  | release n => exact ⟨[], by simp, by simp⟩
  | _ => exact ⟨[], by simp, (congrArg (fun l => { s.rl with transmit := l }) (List.append_nil _)).symm⟩

theorem Acts.grows {s t : State} (h : Acts s t) :
    ∃ l : List LinkUnit, (∀ u ∈ l, u.isReply = false) ∧ t.rl = { s.rl with transmit := s.rl.transmit ++ l } := by
  induction h with
  | refl => exact ⟨[], by simp, by simp⟩
  | tail _ act ih =>
    obtain ⟨l, hl, el⟩ := ih
    obtain ⟨m, hm, em⟩ := act.grows
    refine ⟨l ++ m, fun u h => (List.mem_append.mp h).elim (hl u) (hm u), ?_⟩
    rw [em, el, List.append_assoc]

end Sys2Proof.Machine
end

section
/-! That every command is of the shape that `Shape` says: one walk through the rows of the table. -/

namespace Sys2Proof.Machine

/-! ## Relinking -/

theorem RoomLink.SameReplies.refl (a : RoomLink) : a.SameReplies a := ⟨rfl, rfl, rfl⟩

theorem RoomLink.SameReplies.trans {a b c : RoomLink} (h : a.SameReplies b) (k : b.SameReplies c) : a.SameReplies c :=
  ⟨k.unanswered.trans h.unanswered, k.held.trans h.held, k.replies.trans h.replies⟩

theorem Relinked.refl (s : State) : Relinked s s := ⟨rfl, .refl _⟩

/-- R164: units that are no replies leave the count of replies. -/
theorem countP_isReply_append {l m : List LinkUnit} (quiet : ∀ u ∈ m, u.isReply = false) :
    (l ++ m).countP (·.isReply) = l.countP (·.isReply) := by
  have none : m.countP (·.isReply) = 0 := List.countP_eq_zero.mpr fun u h => by simp [quiet u h]
  rw [List.countP_append, none, Nat.add_zero]

/-- R167: an event not tied to a request differs from its own work in where its units stand. -/
theorem State.untied_relinked {s : State} {f : State → State} (writes : Acts s (f s)) : Relinked (f s) (s.untied f) := by
  obtain ⟨l, _, link⟩ := writes.grows
  refine ⟨rfl, rfl, rfl, ?_⟩
  exact ((State.untied_fellIn ⟨l, by rw [link]⟩).perm).countP_eq _

theorem State.atTail_relinked (s : State) (f : State → State) : Relinked (f s) (s.atTail f) :=
  ⟨rfl, rfl, rfl, rfl⟩

/-! ## How a row comes to its shape -/

theorem Shape.stay (s : State) : Shape s s := .events .refl (.refl s)

theorem Shape.event {s t : State} (h : Event s t) : Shape s t := .events h.chain (.refl t)

theorem Shape.untied {s : State} {f : State → State} (h : Event s (f s)) : Shape s (s.untied f) :=
  .events h.chain (State.untied_relinked h.acts)

theorem Shape.after {s m t : State} (h : Event s m) (k : ∃ x, Events m x ∧ Relinked x t) : Shape s t := by
  obtain ⟨x, events, link⟩ := k
  exact .events (h.chain.trans events) link

/-- R25 to R31: a management row goes on as its owner does, from the state with the burst as it was or closed. -/
theorem State.manage_shape (s : State) (u : Unit96) (row : MgmtRow) (owner : State → State)
    (h : row.fieldsOk = true → ∀ b : State, ∃ x, Events b x ∧ Relinked x (owner b)) : Shape s (s.manage u row owner) := by
  have closed : ∀ b : State, (b = s ∨ b = s.closeBurst) → Events s b := by
    rintro b (rfl | rfl)
    · exact .refl
    · exact Event.closeBurst.chain
  by_cases fields : row.fieldsOk = true
  · obtain failed | ignored | ⟨b, hb, refused | refused | owned⟩ := s.manage_cases u row owner
    · rw [failed]; exact .event (.failCheck u)
    · rw [ignored]; exact .stay s
    · rw [refused]; exact .events ((closed b hb).trans (Event.refuse u _).chain) (.refl _)
    · rw [refused]; exact .events ((closed b hb).trans (Event.refuse u _).chain) (.refl _)
    · obtain ⟨x, events, link⟩ := h fields b
      rw [owned]
      exact .events ((closed b hb).trans events) link
  · have refuses : ∀ b : State, (b = s ∨ b = s.closeBurst) → Shape s (b.refuse u .badField) := fun b hb =>
      .events ((closed b hb).trans (Event.refuse u _).chain) (.refl _)
    unfold State.manage
    split
    · exact .event (.failCheck u)
    · split
      · exact .stay s
      · dsimp only
        rw [if_pos (by simpa using fields)]
        exact refuses _ (by split <;> simp)

/-- An owner that is one event. -/
theorem Event.owned {s t : State} (h : Event s t) : ∃ x, Events s x ∧ Relinked x t := ⟨t, h.chain, .refl t⟩

/-- An owner that is one event not tied to a request. -/
theorem Event.ownedUntied {s : State} {f : State → State} (h : Event s (f s)) :
    ∃ x, Events s x ∧ Relinked x (s.untied f) := ⟨f s, h.chain, State.untied_relinked h.acts⟩

theorem Events.owned_refl (s : State) : ∃ x, Events s x ∧ Relinked x s := ⟨s, .refl, .refl s⟩

/-- R34: the entries of a TABLE_DATA, one event each. -/
theorem State.takeData_events (s : State) (u : Unit96) : Events s (s.takeData u) := by
  have run : ∀ (t : Table) (l : List Nat) (s : State), Events s (l.foldl (State.takeEntry u t) s) := by
    intro t l
    induction l with
    | nil => exact fun _ => .refl
    | cons i l ih => exact fun s => (Event.takeEntry u t i).chain.trans (ih _)
  unfold State.takeData
  split
  · exact (Event.refuse u _).chain
  · split_ifs
    · exact (Event.refuse u _).chain
    · exact (Event.refuse u _).chain
    · exact run _ _ _

theorem Events.acts_untied {s : State} {f : State → State} (h : Events s (f s)) :
    ∃ x, Events s x ∧ Relinked x (s.untied f) := ⟨f s, h, State.untied_relinked h.acts⟩

/-! ## The requests (R163 to R169) -/

theorem Answered.of_events {s m : State} (u : Unit96) (code : ReplyCode) (detail : Nat) (h : Events s m) :
    Answered s (m.answer u code detail) := .plain _ h (.refl _)

theorem Answered.refusal (s : State) (u : Unit96) (code : ReplyCode) (detail : Nat) :
    Answered s (s.answer u code detail) := .of_events u code detail .refl

theorem Answered.of_registers {s m : State} (u : Unit96) (code : ReplyCode) (detail : Nat) (h : Registers s m) :
    Answered s ((m.answer u code detail).atTail State.settleHeld) :=
  .settled _ h (State.atTail_relinked _ _)

theorem State.checked_answered (s : State) (u : Unit96) (ok : Bool) (owner : State → State)
    (h : ok = true → Answered s (owner s)) : Answered s (s.checked u ok owner) := by
  unfold State.checked
  split
  · next passes => exact h passes
  · exact .refusal s u _ _

theorem State.requestTune_answered (s : State) (u : Unit96) : Answered s (s.requestTune u) :=
  s.checked_answered u _ _ fun _ => .of_events u _ _ (Event.tune _ _).chain

theorem State.requestOff_answered (s : State) (u : Unit96) : Answered s (s.requestOff u) :=
  s.checked_answered u _ _ fun _ => .of_events u _ _ (Event.off _).chain

theorem State.requestBuy_answered (s : State) (u : Unit96) : Answered s (s.requestBuy u) := by
  refine s.checked_answered u _ _ fun _ => ?_
  dsimp only
  split
  · next passes => exact .of_registers u _ _ (.buy _ _ passes)
  · exact .of_events u _ _ (Event.tune _ _).chain
  · exact .refusal s u _ _

theorem State.requestCancel_answered (s : State) (u : Unit96) : Answered s (s.requestCancel u) := by
  refine s.checked_answered u _ _ fun _ => ?_
  split
  · exact .refusal s u _ _
  · next e target =>
    have bought : s.purchase e.title = some e := by
      obtain ⟨title, _, held⟩ := Option.bind_eq_some_iff.mp target
      rw [State.purchase_title held]
      exact held
    split
    · exact .refusal s u _ _
    · exact .of_events u _ _ (Event.void e bought).chain

theorem State.answerWrongPin_answered (s : State) (u : Unit96) (pin : s.lu.pin ≠ none) (unlocked : s.lu.lockout = none) :
    Answered s ((s.answerWrongPin u).atTail State.settleHeld) :=
  .of_registers u _ _ (.wrongPin pin unlocked)

theorem clampTo_pos {low high n : Nat} (h : 0 < low) : 0 < clampTo low high n := by
  unfold clampTo
  omega

theorem State.requestPinUnlock_answered (s : State) (u : Unit96) : Answered s (s.requestPinUnlock u) := by
  refine s.checked_answered u _ _ fun _ => ?_
  dsimp only
  split
  · exact .refusal s u _ _
  split
  · exact .refusal s u _ _
  next pin =>
  split
  · exact .refusal s u _ _
  next unlocked =>
  split
  · have minutes : 0 < unlockMinutes u := clampTo_pos (by decide)
    exact .of_registers u _ _ (.unlock _ _ (by omega) unlocked)
  · exact s.answerWrongPin_answered u (by simpa using pin) unlocked

/-- R107: the digits of a PIN field that passes RL's check. -/
theorem pinOk_digits {u : Unit96} {n : Nat} (h : pinOk u n = true) :
    (pinField u n).length ≤ 8 ∧ ∀ d ∈ pinField u n, d ≤ 9 := by
  simp only [pinOk, Bool.and_eq_true, decide_eq_true_eq, List.all_eq_true] at h
  exact ⟨by simpa [pinField] using h.1, h.2⟩

theorem State.requestPinSet_answered (s : State) (u : Unit96) : Answered s (s.requestPinSet u) := by
  refine s.checked_answered u _ _ fun ok => ?_
  split
  · exact .refusal s u _ _
  split
  · exact .refusal s u _ _
  next occupied =>
  split
  · exact .refusal s u _ _
  next unlocked =>
  split
  · exact .refusal s u _ _
  next long =>
  split
  · rw [Bool.and_eq_true] at ok
    obtain ⟨top, digits⟩ := pinOk_digits ok.2
    exact .of_events u _ _ (Event.storePin _ (by simpa using occupied) unlocked (by omega) top digits).chain
  · next wrong =>
    refine s.answerWrongPin_answered u ?_ unlocked
    simp only [Bool.or_eq_true, not_or] at wrong
    simpa using wrong.1

theorem State.requestCeiling_answered (s : State) (u : Unit96) : Answered s (s.requestCeiling u) := by
  have range : ceilingField u ≤ 7 := Nat.min_le_right _ _
  refine s.checked_answered u _ _ fun _ => ?_
  dsimp only
  split
  · exact .refusal s u _ _
  split
  · exact .of_events u _ _ (Event.setCeiling _ range).chain
  split
  · exact .refusal s u _ _
  next pin =>
  split
  · exact .refusal s u _ _
  next unlocked =>
  split
  · exact .of_events u _ _ ((Event.forgive unlocked).chain.trans (Event.setCeiling _ range).chain)
  · exact s.answerWrongPin_answered u (by simpa using pin) unlocked

theorem State.requestRelock_answered (s : State) (u : Unit96) : Answered s (s.requestRelock u) :=
  s.checked_answered u _ _ fun _ => .of_events u _ _ (Event.endUnlock _).chain

/-- R46: the entries of a listing at the tail. -/
theorem sendEntries_eq (entries : List ListEntry) (s : State) : entries.foldl (fun t e => t.send (.listEntry e)) s =
    { s with rl := { s.rl with transmit := s.rl.transmit ++ entries.map .listEntry } } := by
  induction entries generalizing s with
  | nil => simp
  | cons e entries ih => rw [List.foldl_cons, ih]; simp [State.send]

theorem State.requestList_answered (s : State) (u : Unit96) : Answered s (s.requestList u) := by
  refine s.checked_answered u _ _ fun _ => ?_
  dsimp only
  rw [sendEntries_eq]
  refine .of_events u _ _ (Event.sends _ fun x h => ?_).chain
  obtain ⟨e, _, rfl⟩ := List.mem_map.mp h
  rfl

theorem State.requestQueryPort_answered (s : State) (u : Unit96) : Answered s (s.requestQueryPort u) :=
  s.checked_answered u _ _ fun _ => .of_events u _ _ (Event.sends [_] (by simp [LinkUnit.isReply])).chain

theorem State.requestQueryRoom_answered (s : State) (u : Unit96) : Answered s (s.requestQueryRoom u) :=
  .plain _ .refl (.refl _)

/-- R169: an abandoned listing keeps its reply. -/
theorem abandonListings_replies (l : List LinkUnit) (n : Nat) :
    (abandonListings n l).countP (·.isReply) = l.countP (·.isReply) := by
  induction l generalizing n with
  | nil => rfl
  | cons x l ih =>
    cases x with
    | listEntry e => simpa [abandonListings, List.countP_cons, LinkUnit.isReply] using ih _
    | reply r =>
      rw [abandonListings]
      split <;> simpa [List.countP_cons, LinkUnit.isReply] using ih _
    | programme => simpa [abandonListings, List.countP_cons, LinkUnit.isReply] using ih _
    | blank => simpa [abandonListings, List.countP_cons, LinkUnit.isReply] using ih _
    | notice => simpa [abandonListings, List.countP_cons, LinkUnit.isReply] using ih _

theorem State.requestLinkReset_answered (s : State) (u : Unit96) : Answered s (s.requestLinkReset u) := by
  refine .plain { port := replyPort u, kind := requestKind u, code := .ok, detail := 0, report := none }
    Event.linkOff.chain ⟨rfl, rfl, rfl, ?_⟩
  simp only [State.requestLinkReset, State.answer, State.send_rl, List.countP_append]
  exact congrArg (· + _) (abandonListings_replies _ 0)

theorem State.requestUnknown_answered (s : State) (u : Unit96) : Answered s (s.requestUnknown u) := .refusal s u _ _

theorem State.request_answered (s : State) (u : Unit96) : Answered s (s.request u) := by
  unfold State.request
  split
  · exact s.requestTune_answered u
  · exact s.requestOff_answered u
  · exact s.requestBuy_answered u
  · exact s.requestCancel_answered u
  · exact s.requestPinUnlock_answered u
  · exact s.requestPinSet_answered u
  · exact s.requestCeiling_answered u
  · exact s.requestRelock_answered u
  · exact s.requestList_answered u
  · exact s.requestQueryPort_answered u
  · exact s.requestQueryRoom_answered u
  · exact s.requestLinkReset_answered u
  · exact s.requestUnknown_answered u

/-- R164: a request row holds the unit back or answers it. -/
theorem State.receive_shape (s : State) (u : Unit96) (owner : State → State) (h : Answered s.countRequest (owner s.countRequest)) :
    Shape s (s.receive u owner) := by
  by_cases full : 8 ≤ s.rl.unanswered
  · rw [State.receive_held u owner full]
    exact .heldBack u full
  · rw [State.receive_open u owner (by omega)]
    exact .answered (by omega) h

theorem State.linkNext_empty {s : State} (empty : s.rl.transmit = []) :
    s.linkNext = { s with rl := { s.rl with sending := none } } := by
  simp only [State.linkNext, empty]

theorem State.linkNext_cons {s : State} {u : LinkUnit} {us : List LinkUnit} (waits : s.rl.transmit = u :: us) :
    s.linkNext = (s.leave u us).takeHeld := by
  simp only [State.linkNext, waits, State.leave]

theorem State.takeHeld_none {s : State} (none : s.rl.held = []) : s.takeHeld = s := by
  simp only [State.takeHeld, none]

theorem State.takeHeld_full {s : State} (full : 8 ≤ s.rl.unanswered) : s.takeHeld = s := by
  have closed : s.rl.receiveHeld = true := by simpa [RoomLink.receiveHeld] using full
  unfold State.takeHeld
  split
  · rfl
  · rw [if_pos closed]

theorem State.takeHeld_open {s : State} {x : Unit96} {xs : List Unit96} (held : s.rl.held = x :: xs)
    (room : s.rl.unanswered < 8) :
    s.takeHeld = ({ s with rl := { s.rl with held := xs } } : State).countRequest.request x := by
  have opens : ¬ s.rl.receiveHeld = true := by simpa [RoomLink.receiveHeld] using room
  simp only [State.takeHeld, held, if_neg opens]

/-- R164, R167. -/
theorem State.linkNext_shape (s : State) : Shape s s.linkNext := by
  cases waits : s.rl.transmit with
  | nil => rw [State.linkNext_empty waits]; exact .idle waits
  | cons u us =>
    rw [State.linkNext_cons waits]
    cases held : s.rl.held with
    | nil => rw [State.takeHeld_none (s := s.leave u us) held]; exact .left u us waits (.inl held)
    | cons x xs =>
      by_cases full : 8 ≤ (s.leave u us).rl.unanswered
      · rw [State.takeHeld_full full]; exact .left u us waits (.inr full)
      · have room : (s.leave u us).rl.unanswered < 8 := Nat.lt_of_not_le full
        rw [State.takeHeld_open (s := s.leave u us) held room]
        exact .took u us waits held room (State.request_answered _ x)

/-! ## The rows -/

theorem asRow_shape {b : Bool} {s m t : State} (h : asRow b m = .next t) (shape : b = true → Shape s m) : Shape s t := by
  obtain ⟨spelled, rfl⟩ := asRow_eq_next.mp h
  exact shape spelled

/-- What any command leaves. -/
theorem exec_shape {c : Instr} {s t : State} (h : exec c s = .next t) : Shape s t := by
  cases c with
  | powerOnReset strap =>
    obtain rfl := Host.Outcome.next.inj h
    exact .powerOn strap
  | mediaUnit u => exact asRow_shape h fun _ => .untied (.deliver u)
  | filler u => exact asRow_shape h fun _ => .stay s
  | feedReturnUnit u => exact asRow_shape h fun _ => .stay s
  | formatFault u => exact asRow_shape h fun _ => .event .countFault
  | badKind u => exact asRow_shape h fun _ => s.manage_shape u _ _ fun _ b => (Event.refuse u _).owned
  | clockMark u =>
    have range : markTime u ≤ clockMax := Nat.le_of_lt_succ (u.word32_lt 3)
    exact asRow_shape h fun _ => s.manage_shape u _ _ fun _ b => Event.ownedUntied (.mark _ range)
  | keyLoad u =>
    refine asRow_shape h fun _ => s.manage_shape u _ _ fun fields b => (Event.loadKey _ _ _ u ?_ ?_).owned
    · simp only [keyLoadFieldsOk, Bool.and_eq_true, decide_eq_true_eq] at fields
      exact fields.1
    · exact Nat.le_of_lt_succ (u.word32_lt 14)
  | keyPurge u => exact asRow_shape h fun _ => s.manage_shape u _ _ fun _ b => (Event.purge _).owned
  | keyPurgeAllGroups u => exact asRow_shape h fun _ => s.manage_shape u _ _ fun _ b => Event.clearKeys.owned
  | tableOpen u => exact asRow_shape h fun _ => s.manage_shape u _ _ fun _ b => (Event.openBurst u _).owned
  | tableData u =>
    exact asRow_shape h fun _ => s.manage_shape u _ _ fun _ b => Events.acts_untied (b.takeData_events u)
  | stayOpen u =>
    refine asRow_shape h fun _ => s.manage_shape u _ _ fun _ b => ?_
    split_ifs with occupied
    · exact (Event.refuse u _).owned
    · exact Event.ownedUntied (.openStay u (by simpa using occupied))
  | stayClose u =>
    refine asRow_shape h fun _ => s.manage_shape u _ _ fun _ b => ?_
    split_ifs with occupied
    · exact Event.ownedUntied (.closeStay occupied)
    · exact Events.owned_refl b
  | roomSettings u => exact asRow_shape h fun _ => s.manage_shape u _ _ fun _ b => Event.ownedUntied (.settings u)
  | setCeiling u =>
    have range : ceilingValue u ≤ 7 := Nat.min_le_right _ _
    exact asRow_shape h fun _ => s.manage_shape u _ _ fun _ b => Event.ownedUntied (.setCeiling _ range)
  | endUnlocks u => exact asRow_shape h fun _ => s.manage_shape u _ _ fun _ b => Event.ownedUntied .endUnlocks
  | clearPin u => exact asRow_shape h fun _ => s.manage_shape u _ _ fun _ b => Event.clearPin.owned
  | endLockout u => exact asRow_shape h fun _ => s.manage_shape u _ _ fun _ b => Event.cutLockout.owned
  | freeze u => exact asRow_shape h fun _ => s.manage_shape u _ _ fun _ b => (Event.freeze true).owned
  | unfreeze u => exact asRow_shape h fun _ => s.manage_shape u _ _ fun _ b => (Event.freeze false).owned
  | houseAlert u =>
    have positive : 0 < alertSeconds u := clampTo_pos (by decide)
    exact asRow_shape h fun _ => s.manage_shape u _ _ fun _ b => Event.ownedUntied (.orderAlert _ _ positive)
  | houseAlertStop u =>
    refine asRow_shape h fun _ => s.manage_shape u _ _ fun _ b => ?_
    split_ifs
    · exact Event.ownedUntied .endAlert
    · exact Events.owned_refl b
  | pollBilling u => exact asRow_shape h fun _ => s.manage_shape u _ _ fun _ b => (Event.handReturn _).owned
  | pollCapture u => exact asRow_shape h fun _ => s.manage_shape u _ _ fun _ b => (Event.handReturn _).owned
  | returnTransmitEnd =>
    obtain rfl := Host.Outcome.next.inj h
    exact .event .endReturn
  | release u => exact asRow_shape h fun _ => s.manage_shape u _ _ fun _ b => (Event.release _).owned
  | roomReset u =>
    exact asRow_shape h fun _ => s.manage_shape u _ _ fun _ b =>
      ⟨_, Event.resetRoom.chain, State.atTail_relinked b State.resetRoom⟩
  | localSecond =>
    obtain rfl := Host.Outcome.next.inj h
    exact .untied .second
  | silent =>
    obtain rfl := Host.Outcome.next.inj h
    exact .event .silent
  | keyPhaseExpiry group phase =>
    obtain rfl := Host.Outcome.next.inj h
    split_ifs
    · exact .event (.expireKey group phase)
    · exact .stay s
  | unlockEnd p =>
    obtain rfl := Host.Outcome.next.inj h
    exact .untied (.endUnlock p)
  | lockoutEnd =>
    obtain rfl := Host.Outcome.next.inj h
    split
    · next due locked => exact .untied (.endLockout due locked)
    · exact .stay s
  | strictQuietEnd =>
    obtain rfl := Host.Outcome.next.inj h
    exact .event .endStrict
  | purchaseWindowEnd title =>
    obtain rfl := Host.Outcome.next.inj h
    split
    · next e bought => exact .untied (.endWindow e (by rw [State.purchase_title bought]; exact bought))
    · exact .stay s
  | houseAlertEnd =>
    obtain rfl := Host.Outcome.next.inj h
    split_ifs
    · exact .untied .endAlert
    · exact .stay s
  | signalTimerExpiry p =>
    obtain rfl := Host.Outcome.next.inj h
    exact .untied (.expireSignal p)
  | blankCadenceExpiry p =>
    obtain rfl := Host.Outcome.next.inj h
    exact .untied (.expireCadence p)
  | linkUnitSent =>
    obtain rfl := Host.Outcome.next.inj h
    exact s.linkNext_shape
  | nonRequestUnit u => exact asRow_shape h fun _ => .stay s
  | unknownRequestKind u => exact asRow_shape h fun _ => s.receive_shape u _ (State.requestUnknown_answered _ u)
  | tune u => exact asRow_shape h fun _ => s.receive_shape u _ (State.requestTune_answered _ u)
  | off u => exact asRow_shape h fun _ => s.receive_shape u _ (State.requestOff_answered _ u)
  | buy u => exact asRow_shape h fun _ => s.receive_shape u _ (State.requestBuy_answered _ u)
  | cancel u => exact asRow_shape h fun _ => s.receive_shape u _ (State.requestCancel_answered _ u)
  | pinUnlock u => exact asRow_shape h fun _ => s.receive_shape u _ (State.requestPinUnlock_answered _ u)
  | pinSet u => exact asRow_shape h fun _ => s.receive_shape u _ (State.requestPinSet_answered _ u)
  | ceiling u => exact asRow_shape h fun _ => s.receive_shape u _ (State.requestCeiling_answered _ u)
  | relock u => exact asRow_shape h fun _ => s.receive_shape u _ (State.requestRelock_answered _ u)
  | list u => exact asRow_shape h fun _ => s.receive_shape u _ (State.requestList_answered _ u)
  | queryPort u => exact asRow_shape h fun _ => s.receive_shape u _ (State.requestQueryPort_answered _ u)
  | queryRoom u => exact asRow_shape h fun _ => s.receive_shape u _ (State.requestQueryRoom_answered _ u)
  | linkReset u => exact asRow_shape h fun _ => s.receive_shape u _ (State.requestLinkReset_answered _ u)

/-- What a step leaves: the shape is that of the state whose queue has lost its front. -/
theorem step_shape {s t : State} (h : step s = .next t) : ∃ queue, Shape { s with pending := queue } t := by
  unfold step at h
  split at h
  · next empty =>
    obtain rfl := Host.Outcome.next.inj h
    exact ⟨s.pending, .untied .millisecond⟩
  · next c rest _ => exact ⟨rest, exec_shape h⟩

end Sys2Proof.Machine
end

section
/-! The laws of the links, the counters and the silence monitor (R11, R19, R132, R164), kept by every step. -/

namespace Sys2Proof.Machine

/-! ## From one write to one step -/

/-- A property that every write keeps, that reads nothing of RL, of the choices and of the queue, and that power-on reset
sets up, is kept by every step. -/
theorem step_keeps {P : State → Prop} (act : ∀ s t, Act s t → P s → P t)
    (blind : ∀ (s : State) (rl : RoomLink) (c : Choices) (q : List Instr),
      P s → P { s with rl := rl, choices := c, pending := q })
    (reset : ∀ (s : State) (strap : BitVec 14), P (s.powerOn strap)) {s t : State} (h : step s = .next t) (p : P s) : P t := by
  have relinked : ∀ {x y : State}, Relinked x y → P x → P y := fun {x y} link px => by
    rw [link.state]; exact blind x _ _ x.pending px
  have answered : ∀ {x y : State}, Answered x y → P x → P y := by
    intro x y hxy px
    cases hxy with
    | @plain m r events link => exact relinked link (blind m _ _ _ (events.acts.keep act px))
    | @settled m r registers link =>
      exact relinked link ((State.settleHeld_acts _).keep act (blind m _ _ _ (registers.acts.keep act px)))
  obtain ⟨queue, shape⟩ := step_shape h
  have p' := blind s s.rl s.choices queue p
  cases shape with
  | powerOn strap => exact reset _ strap
  | events events link => exact relinked link (events.acts.keep act p')
  | heldBack u full => exact blind s _ _ queue p
  | answered room hxy => exact answered hxy (blind s _ _ queue p)
  | idle empty => exact blind s _ _ queue p
  | left u us waits keeps => exact blind s _ _ queue p
  | took u us waits held room hxy => exact answered hxy (blind s _ _ queue p)

/-! ## Return units (R19) -/

theorem State.handReturn_returnLaw {s : State} (r : ReturnUnit) (law : s.fi.ReturnLaw) : (s.handReturn r).fi.ReturnLaw := by
  obtain ⟨short, idle, count⟩ := law
  unfold State.handReturn
  split
  · exact ⟨short, by simp [State.beginReturn], Nat.mod_lt _ (by decide)⟩
  · next busy =>
    have sending : s.fi.sending ≠ none := by simpa using busy
    split
    · next room =>
      refine ⟨?_, fun free => absurd free sending, count⟩
      rw [List.length_append]
      exact room
    · refine ⟨?_, fun free => absurd free sending, count⟩
      simp only [List.length_append, List.length_tail, List.length_singleton]
      simp only [waitingMax] at short ⊢
      omega

theorem State.endReturn_returnLaw {s : State} (law : s.fi.ReturnLaw) : s.endReturn.fi.ReturnLaw := by
  obtain ⟨short, idle, count⟩ := law
  unfold State.endReturn
  split
  · next empty => exact ⟨short, fun _ => empty, count⟩
  · next r rest waits =>
    refine ⟨?_, by simp [State.beginReturn], Nat.mod_lt _ (by decide)⟩
    rw [waits] at short
    exact Nat.le_of_succ_le short

theorem State.closePurchase_fi (s : State) (e : Purchase) (time : Nat) : (s.closePurchase e time).fi = s.fi :=
  (s.closePurchase_due e time).fi

theorem State.closeAll_frame (s : State) : DueFrame s s.closeAll :=
  List.foldlRecOn (motive := fun t : State => DueFrame s t) _ _ (.refl s) fun t ih e _ =>
    ih.trans (t.closePurchase_due e s.su.clock)

theorem State.releaseTo_cases (s : State) (n : Nat) : s.releaseTo n = { s with bq := s.bq.release n } ∨
    (s.su.occupancy = .settling ∧
      s.releaseTo n = { s with bq := s.bq.release n, su := { s.su with occupancy := .vacant } }) := by
  unfold State.releaseTo
  dsimp only
  split
  · next settled =>
    simp only [Bool.and_eq_true, beq_iff_eq] at settled
    exact .inr ⟨settled.2, rfl⟩
  · exact .inl rfl

theorem Act.keeps_returnLaw {s t : State} (h : Act s t) (law : s.fi.ReturnLaw) : t.fi.ReturnLaw := by
  cases h with
  | handReturn r => exact State.handReturn_returnLaw r law
  | endReturn => exact State.endReturn_returnLaw law
  | migrate => rw [State.migrate_fi]; exact law
  | closeAll => rw [s.closeAll_frame.fi]; exact law
  | close e time => rw [State.closePurchase_fi]; exact law
  | release n => obtain e | ⟨_, e⟩ := s.releaseTo_cases n <;> rw [e] <;> exact law
  | _ => exact law

/-! ## Silence (R11, R132) -/

theorem StayUnit.countSilence_law {su : StayUnit} (count : su.silenceCount ≤ silenceLimit)
    (limit : su.silenceCount = silenceLimit → su.silent = true) :
    su.countSilence.silenceCount ≤ silenceLimit ∧
      (su.countSilence.silenceCount = silenceLimit → su.countSilence.silent = true) ∧
      (su.countSilence.silent = false → su.silent = false) := by
  unfold StayUnit.countSilence
  split
  · next below =>
    refine ⟨below, fun top => ?_, fun quiet => ?_⟩
    · simp only [beq_iff_eq.mpr top, Bool.or_true]
    · exact (Bool.or_eq_false_iff.mp quiet).1
  · exact ⟨count, limit, id⟩

theorem State.handReturn_frame (s : State) (r : ReturnUnit) :
    (s.handReturn r).su = s.su ∧ (s.handReturn r).pu = s.pu ∧ (s.handReturn r).md = s.md ∧
      (s.handReturn r).sf = s.sf ∧ (s.handReturn r).ks = s.ks ∧ (s.handReturn r).lu = s.lu ∧
      (s.handReturn r).pc = s.pc ∧ (s.handReturn r).tm = s.tm := by
  unfold State.handReturn
  split_ifs <;> exact ⟨rfl, rfl, rfl, rfl, rfl, rfl, rfl, rfl⟩

theorem State.endReturn_frame (s : State) : s.endReturn.su = s.su ∧ s.endReturn.pu = s.pu ∧ s.endReturn.md = s.md ∧
    s.endReturn.sf = s.sf ∧ s.endReturn.ks = s.ks ∧ s.endReturn.lu = s.lu ∧ s.endReturn.pc = s.pc ∧
    s.endReturn.tm = s.tm ∧ s.endReturn.fi.dropped = s.fi.dropped := by
  unfold State.endReturn
  split <;> exact ⟨rfl, rfl, rfl, rfl, rfl, rfl, rfl, rfl, rfl⟩

/-- The law reads SU's two silence fields and PU's count alone. -/
theorem State.SilenceLaw.congr {s t : State} (law : s.SilenceLaw) (count : t.su.silenceCount = s.su.silenceCount)
    (silent : t.su.silent = s.su.silent) (bought : t.pu.silentCount = s.pu.silentCount) : t.SilenceLaw := by
  unfold State.SilenceLaw
  rw [count, silent, bought]
  exact law

theorem DueFrame.keeps_silenceLaw {s t : State} (h : DueFrame s t) (law : s.SilenceLaw) : t.SilenceLaw :=
  law.congr (by rw [h.su]) (by rw [h.su]) h.pu

theorem Act.keeps_silenceLaw {s t : State} (h : Act s t) (law : s.SilenceLaw) : t.SilenceLaw := by
  have law' := law
  obtain ⟨count, limit, bought, none⟩ := law'
  cases h with
  | tick =>
    have clock : s.su.tickClock.countSilence.silenceCount ≤ silenceLimit ∧ _ :=
      StayUnit.countSilence_law (su := s.su.tickClock) count limit
    obtain ⟨count', limit', silent'⟩ := clock
    exact ⟨count', limit', bought, fun quiet => none (silent' quiet)⟩
  | breakSilence =>
    refine ⟨Nat.zero_le _, fun top => absurd (show 0 = 90 from top) (by decide), ?_, fun _ => ?_⟩
    · simp only [State.breakSilence]
      split
      · exact Nat.zero_le _
      · exact bought
    · simp only [State.breakSilence]
      split
      · rfl
      · next quiet => exact none (by simpa using quiet)
  | silent => exact ⟨le_rfl, fun _ => rfl, bought, fun quiet => absurd quiet Bool.noConfusion⟩
  | openStay u => exact ⟨count, limit, Nat.zero_le _, fun _ => rfl⟩
  | countSilentBuy silent below => exact ⟨count, limit, below, fun quiet => absurd (silent.symm.trans quiet) (by decide)⟩
  | handReturn r => exact law.congr (by rw [(s.handReturn_frame r).1]) (by rw [(s.handReturn_frame r).1]) (by rw [(s.handReturn_frame r).2.1])
  | endReturn => exact law.congr (by rw [s.endReturn_frame.1]) (by rw [s.endReturn_frame.1]) (by rw [s.endReturn_frame.2.1])
  | migrate => exact s.migrate_due.keeps_silenceLaw law
  | closeAll => exact s.closeAll_frame.keeps_silenceLaw law
  | close e time => exact (s.closePurchase_due e time).keeps_silenceLaw law
  | release n => obtain e | ⟨_, e⟩ := s.releaseTo_cases n <;> rw [e] <;> exact law
  | _ => exact law

/-! ## Counters (00_scope, "Numbers") -/

theorem raiseCounter_le (n : Nat) : raiseCounter n ≤ counterMax := Nat.min_le_right _ _

/-- The counters of KS. -/
abbrev KeyStore.CounterLaw (ks : KeyStore) : Prop := ks.replaced ≤ counterMax ∧ ks.displaced ≤ counterMax

@[simp] theorem KeyStore.setSet_replaced (ks : KeyStore) (g : Nat) (st : KeySet) :
    (ks.setSet g st).replaced = ks.replaced := rfl

@[simp] theorem KeyStore.setSet_displaced (ks : KeyStore) (g : Nat) (st : KeySet) :
    (ks.setSet g st).displaced = ks.displaced := rfl

@[simp] theorem KeyStore.put_replaced (ks : KeyStore) (g : Nat) (e : Option KeyEntry) (p : Place) :
    (ks.put g e p).replaced = ks.replaced := by
  cases p <;> rfl

@[simp] theorem KeyStore.put_displaced (ks : KeyStore) (g : Nat) (e : Option KeyEntry) (p : Place) :
    (ks.put g e p).displaced = ks.displaced := by
  cases p <;> rfl

theorem KeyStore.placeInWay_counters {ks : KeyStore} (e : KeyEntry) (w : Way) (law : ks.CounterLaw) :
    (ks.placeInWay e w).CounterLaw := law

theorem State.placeKey_counters {s : State} (g : Nat) (ph : KeyPhase) (k : PhaseKey) (law : s.ks.CounterLaw) :
    (s.placeKey g ph k).CounterLaw := by
  unfold State.placeKey
  dsimp only
  split
  · rw [KeyStore.CounterLaw, KeyStore.put_replaced, KeyStore.put_displaced]; exact law
  · split
    · exact KeyStore.placeInWay_counters _ _ law
    · exact ⟨raiseCounter_le _, law.2⟩
    · split
      · exact ⟨law.1, raiseCounter_le _⟩
      · exact law

theorem State.migrate_counters {s : State} (law : s.ks.CounterLaw) : s.migrate.ks.CounterLaw := by
  unfold State.migrate
  split
  · exact law
  · dsimp only
    split
    · exact law
    · exact ⟨raiseCounter_le _, law.2⟩
    · exact law

theorem KeyStore.purge_counters {ks : KeyStore} (g : Nat) (law : ks.CounterLaw) : (ks.purge g).CounterLaw := by
  unfold KeyStore.purge
  split
  · exact law
  · rw [KeyStore.CounterLaw, KeyStore.put_replaced, KeyStore.put_displaced]; exact law

theorem KeyStore.dropPhase_counters {ks : KeyStore} (g : Nat) (ph : KeyPhase) (law : ks.CounterLaw) :
    (ks.dropPhase g ph).CounterLaw := by
  unfold KeyStore.dropPhase
  split
  · exact law
  · rw [KeyStore.CounterLaw, KeyStore.put_replaced, KeyStore.put_displaced]; exact law

theorem KeyStore.lookupMark_counters {ks : KeyStore} (g : Nat) (law : ks.CounterLaw) : (ks.lookupMark g).CounterLaw := by
  unfold KeyStore.lookupMark
  split <;> exact law

/-- The counters outside KS. -/
abbrev State.OtherCounters (s : State) : Prop :=
  s.sf.formatFaults ≤ counterMax ∧ s.md.checkFailures ≤ counterMax ∧ s.md.refusals ≤ counterMax ∧
    s.md.overruns ≤ counterMax ∧ s.fi.dropped ≤ counterMax ∧ s.su.marksIgnored ≤ counterMax

theorem State.counterLaw_iff (s : State) : s.CounterLaw ↔ s.OtherCounters ∧ s.ks.CounterLaw := by
  unfold State.CounterLaw State.OtherCounters KeyStore.CounterLaw
  tauto

theorem DueFrame.keeps_otherCounters {s t : State} (h : DueFrame s t) (law : s.OtherCounters) : t.OtherCounters := by
  unfold State.OtherCounters
  rw [h.sf, h.md, h.fi, h.su]
  exact law

@[simp] theorem State.closePurchase_ks (s : State) (e : Purchase) (time : Nat) : (s.closePurchase e time).ks = s.ks := by
  unfold State.closePurchase
  dsimp only
  split <;> rfl

@[simp] theorem State.closeAll_ks (s : State) : s.closeAll.ks = s.ks :=
  List.foldlRecOn (motive := fun t : State => t.ks = s.ks) _ _ rfl fun t ih e _ =>
    (State.closePurchase_ks t e s.su.clock).trans ih

theorem StayUnit.countSilence_marks (su : StayUnit) : su.countSilence.marksIgnored = su.marksIgnored := by
  unfold StayUnit.countSilence
  split <;> rfl

theorem Act.keeps_counterLaw {s t : State} (h : Act s t) (law : s.CounterLaw) : t.CounterLaw := by
  rw [State.counterLaw_iff] at law ⊢
  obtain ⟨law, keys⟩ := law
  have law' := law
  obtain ⟨faults, checks, refusals, overruns, dropped, marks⟩ := law'
  cases h with
  | countFault => exact ⟨⟨raiseCounter_le _, checks, refusals, overruns, dropped, marks⟩, keys⟩
  | failCheck u => exact ⟨⟨faults, raiseCounter_le _, refusals, overruns, dropped, marks⟩, keys⟩
  | refuse u r => exact ⟨⟨faults, checks, raiseCounter_le _, overruns, dropped, marks⟩, keys⟩
  | dropEntry => exact ⟨⟨faults, checks, refusals, raiseCounter_le _, dropped, marks⟩, keys⟩
  | ignoreMark => exact ⟨⟨faults, checks, refusals, overruns, dropped, raiseCounter_le _⟩, keys⟩
  | tick =>
    refine ⟨⟨faults, checks, refusals, overruns, dropped, ?_⟩, keys⟩
    rw [StayUnit.countSilence_marks]
    exact marks
  | settings u =>
    have md : ∀ clear : Bool, (if clear then { s.md with capture := none } else s.md).checkFailures = s.md.checkFailures ∧
        (if clear then { s.md with capture := none } else s.md).refusals = s.md.refusals ∧
        (if clear then { s.md with capture := none } else s.md).overruns = s.md.overruns := by
      intro clear
      cases clear <;> exact ⟨rfl, rfl, rfl⟩
    obtain ⟨c, r, o⟩ := md (settingsFields u).clearCapture
    exact ⟨⟨faults, by rw [c]; exact checks, by rw [r]; exact refusals, by rw [o]; exact overruns, dropped, marks⟩, keys⟩
  | handReturn r =>
    obtain ⟨su, _, md, sf, ks, _⟩ := s.handReturn_frame r
    have drop : (s.handReturn r).fi.dropped ≤ counterMax := by
      unfold State.handReturn
      split_ifs
      · exact dropped
      · exact dropped
      · exact raiseCounter_le _
    rw [State.OtherCounters, su, md, sf, ks]
    exact ⟨⟨faults, checks, refusals, overruns, drop, marks⟩, keys⟩
  | endReturn =>
    obtain ⟨su, _, md, sf, ks, _, _, _, fi⟩ := s.endReturn_frame
    rw [State.OtherCounters, su, md, sf, ks, fi]
    exact ⟨law, keys⟩
  | lookupMark g => exact ⟨law, KeyStore.lookupMark_counters g keys⟩
  | placeKey g ph k => exact ⟨law, State.placeKey_counters g ph k keys⟩
  | purge g => exact ⟨law, KeyStore.purge_counters g keys⟩
  | dropPhase g ph => exact ⟨law, KeyStore.dropPhase_counters g ph keys⟩
  | migrate => exact ⟨s.migrate_due.keeps_otherCounters law, State.migrate_counters keys⟩
  | closeAll => exact ⟨s.closeAll_frame.keeps_otherCounters law, by rw [State.closeAll_ks]; exact keys⟩
  | close e time => exact ⟨(s.closePurchase_due e time).keeps_otherCounters law, by rw [State.closePurchase_ks]; exact keys⟩
  | release n => obtain e | ⟨_, e⟩ := s.releaseTo_cases n <;> rw [e] <;> exact ⟨law, keys⟩
  | _ => exact ⟨law, keys⟩

/-! ## Requests (R164) -/

theorem RoomLink.RequestLaw.of_same {a b : RoomLink} (law : a.RequestLaw) (same : a.SameReplies b) : b.RequestLaw := by
  unfold RoomLink.RequestLaw
  rw [same.unanswered, same.replies, same.held]
  exact law

theorem Acts.sameReplies {s t : State} (h : Acts s t) : s.rl.SameReplies t.rl := by
  obtain ⟨l, quiet, link⟩ := h.grows
  rw [link]
  exact ⟨rfl, rfl, countP_isReply_append quiet⟩

/-- R164: from a counted request to its reply. -/
theorem Answered.requestLaw {s t : State} (h : Answered s t) (count : s.rl.unanswered ≤ 8)
    (owed : s.rl.unanswered = s.rl.transmit.countP (·.isReply) + 1) (held : s.rl.held ≠ [] → s.rl.unanswered = 8) :
    t.rl.RequestLaw := by
  have replied : ∀ {m : State} (r : Reply), s.rl.SameReplies m.rl → (m.send (.reply r)).rl.RequestLaw := by
    intro m r same
    refine ⟨?_, ?_, ?_⟩
    · simpa [same.unanswered] using count
    · have reply : (LinkUnit.reply r).isReply = true := rfl
      simp [List.countP_append, reply, same.unanswered, owed, same.replies]
    · simpa [same.unanswered, same.held] using held
  cases h with
  | plain r events link => exact (replied r events.acts.sameReplies).of_same link.replies
  | settled r registers link =>
    exact (replied r registers.acts.sameReplies).of_same ((State.settleHeld_acts _).sameReplies.trans link.replies)

theorem Shape.keeps_requestLaw {s t : State} (h : Shape s t) (law : s.rl.RequestLaw) : t.rl.RequestLaw := by
  have law' := law
  obtain ⟨count, owed, held⟩ := law'
  simp only [requestMax] at count held
  cases h with
  | powerOn strap => exact ⟨Nat.zero_le _, rfl, fun h => absurd rfl h⟩
  | events events link => exact law.of_same (events.acts.sameReplies.trans link.replies)
  | heldBack u full => exact ⟨count, owed, fun _ => le_antisymm count full⟩
  | answered room hst =>
    have none : s.rl.held = [] := by
      by_contra some
      have := held some
      omega
    refine hst.requestLaw ?_ ?_ ?_
    · simp only [State.countRequest_rl]; omega
    · simp only [State.countRequest_rl]; omega
    · intro some
      exact absurd none some
  | idle empty => exact law
  | left u us waits keeps =>
    rw [waits, List.countP_cons] at owed
    have left : (s.leave u us).rl.unanswered = us.countP (·.isReply) := by
      simp only [State.leave]
      split <;> simp_all
    have fewer : (s.leave u us).rl.unanswered ≤ s.rl.unanswered := by
      simp only [State.leave]
      split <;> omega
    refine ⟨fewer.trans count, left, fun some => ?_⟩
    have full : 8 ≤ (s.leave u us).rl.unanswered := keeps.resolve_left some
    exact le_antisymm (fewer.trans count) full
  | @took u us waits x xs held' room t hst =>
    rw [waits, List.countP_cons] at owed
    have full : s.rl.unanswered = 8 := held (by simp [held'])
    have reply : u.isReply = true := by
      by_contra other
      simp [State.leave, other, full] at room
    simp only [reply, if_true] at owed
    refine hst.requestLaw ?_ ?_ ?_
    · simp [State.leave, reply, full]
    · simp [State.leave, reply, full]; omega
    · intro _
      simp [State.leave, reply, full]

/-- Settles O54: each law but R164's is kept by every plain write (`step_keeps`), and R164's by the shape of every command
(`Shape.keeps_requestLaw`): the events make no reply, and a request that is counted makes one. -/
theorem stepsKeepLinksAndCounters : Obligations.StepsKeepLinksAndCounters := by
  intro s t h
  refine ⟨?_, ?_, ?_, ?_⟩
  · exact step_keeps (P := fun s => s.fi.ReturnLaw) (fun _ _ => Act.keeps_returnLaw) (fun _ _ _ _ => id)
      (fun _ _ => ⟨Nat.zero_le _, fun _ => rfl, Nat.zero_lt_succ 15⟩) h
  · obtain ⟨queue, shape⟩ := step_shape h
    exact shape.keeps_requestLaw
  · exact step_keeps (P := State.SilenceLaw) (fun _ _ => Act.keeps_silenceLaw) (fun _ _ _ _ => id)
      (fun _ _ => ⟨Nat.zero_le _, fun top => absurd (show 0 = 90 from top) (by decide), Nat.zero_le _, fun _ => rfl⟩) h
  · exact step_keeps (P := State.CounterLaw) (fun _ _ => Act.keeps_counterLaw) (fun _ _ _ _ => id)
      (fun _ _ => ⟨Nat.zero_le _, Nat.zero_le _, Nat.zero_le _, Nat.zero_le _, Nat.zero_le _, Nat.zero_le _,
        Nat.zero_le _, Nat.zero_le _⟩) h

end Sys2Proof.Machine
end

section
/-! The laws of the open purchases, the billing queue and the money (R6, R125, R152 to R155), kept by every step. -/

namespace Sys2Proof.Machine

/-! ## Open purchases (R125) -/

/-- R125: of entries no two of which share a title, each is the one found for its own. -/
theorem State.purchase_of_mem {s : State} (nodup : (s.pu.purchases.map (·.title)).Nodup) {e : Purchase}
    (m : e ∈ s.pu.purchases) : s.purchase e.title = some e := by
  unfold State.purchase
  generalize s.pu.purchases = l at nodup m
  induction l with
  | nil => simp at m
  | cons x l ih =>
    rw [List.map_cons, List.nodup_cons] at nodup
    rcases List.mem_cons.mp m with rfl | m
    · simp
    · have other : x.title ≠ e.title := fun h => nodup.1 (h ▸ List.mem_map_of_mem m)
      rw [List.find?_cons_of_neg (by simpa using other)]
      exact ih nodup.2 m

theorem State.mem_of_purchase {s : State} {title : Nat} {e : Purchase} (h : s.purchase title = some e) :
    e ∈ s.pu.purchases := List.mem_of_find?_eq_some h

/-- R125: after a removal the title is not open, and every other title is as before. -/
theorem find?_filter_title (l : List Purchase) (removed title : Nat) :
    (l.filter (·.title != removed)).find? (·.title == title) =
      if title = removed then none else l.find? (·.title == title) := by
  induction l with
  | nil => simp
  | cons x l ih =>
    by_cases gone : x.title = removed
    · rw [List.filter_cons_of_neg (by simpa using gone), ih]
      split
      · rfl
      · next other => rw [List.find?_cons_of_neg (by simp [gone, Ne.symm other])]
    · rw [List.filter_cons_of_pos (by simpa using gone)]
      by_cases found : x.title = title
      · rw [List.find?_cons_of_pos (by simpa using found), List.find?_cons_of_pos (by simpa using found),
          if_neg (found ▸ gone)]
      · rw [List.find?_cons_of_neg (by simpa using found), List.find?_cons_of_neg (by simpa using found), ih]

@[simp] theorem State.closePurchase_purchases (s : State) (e : Purchase) (time : Nat) :
    (s.closePurchase e time).pu.purchases = s.pu.purchases.filter (·.title != e.title) := by
  unfold State.closePurchase
  dsimp only
  split <;> rfl

/-! ### The order of closure (R4) -/

theorem insertPurchase_perm (e : Purchase) : ∀ l : List Purchase, (insertPurchase e l).Perm (e :: l)
  | [] => .refl _
  | x :: l => by
    unfold insertPurchase
    split
    · exact .refl _
    · exact ((insertPurchase_perm e l).cons x).trans (.swap e x l)

theorem closureOrder_perm : ∀ l : List Purchase, (closureOrder l).Perm l
  | [] => .refl _
  | e :: l => (insertPurchase_perm e _).trans ((closureOrder_perm l).cons e)

/-- R140: what the closing of one open purchase keeps, the closing of all keeps. -/
theorem State.closeAll_induction {P : State → Prop}
    (close : ∀ (t : State) (e : Purchase) (time : Nat), t.purchase e.title = some e → P t → P (t.closePurchase e time))
    {s : State} (nodup : (s.pu.purchases.map (·.title)).Nodup) (h : P s) : P s.closeAll := by
  have run : ∀ (l : List Purchase) (t : State), (l.map (·.title)).Nodup → (∀ e ∈ l, t.purchase e.title = some e) → P t →
      P (l.foldl (fun t e => t.closePurchase e s.su.clock) t) := by
    intro l
    induction l with
    | nil => exact fun _ _ _ h => h
    | cons e l ih =>
      intro t nodup bought h
      rw [List.map_cons, List.nodup_cons] at nodup
      refine ih _ nodup.2 (fun x m => ?_) (close t e _ (bought e (List.mem_cons_self ..)) h)
      have other : x.title ≠ e.title := fun h => nodup.1 (h ▸ List.mem_map_of_mem m)
      rw [State.purchase, State.closePurchase_purchases, find?_filter_title, if_neg other]
      exact bought x (List.mem_cons_of_mem e m)
  have perm := closureOrder_perm s.pu.purchases
  exact run _ s ((perm.map _).nodup_iff.mpr nodup) (fun e m => State.purchase_of_mem nodup (perm.mem_iff.mp m)) h

/-! ### The law -/

/-- R125: what is left of the purchases when some are removed. -/
theorem PurchaseLaw.filter {l : List Purchase} (p : Purchase → Bool) (law : l.length ≤ purchaseMax ∧ (l.map (·.title)).Nodup) :
    (l.filter p).length ≤ purchaseMax ∧ ((l.filter p).map (·.title)).Nodup :=
  ⟨(List.length_filter_le _ _).trans law.1, law.2.sublist (List.filter_sublist.map _)⟩

/-- R125: an entry under a title that no open purchase holds. -/
theorem PurchaseLaw.append {s : State} {e : Purchase} (law : s.PurchaseLaw) (fresh : s.purchase e.title = none)
    (room : s.pu.purchases.length < purchaseMax) :
    (s.pu.purchases ++ [e]).length ≤ purchaseMax ∧ ((s.pu.purchases ++ [e]).map (·.title)).Nodup := by
  refine ⟨by simpa using room, ?_⟩
  rw [List.map_append, List.map_singleton, List.nodup_append]
  refine ⟨law.2, List.nodup_singleton _, fun a ha b hb => ?_⟩
  obtain ⟨x, m, rfl⟩ := List.mem_map.mp ha
  rw [List.mem_singleton.mp hb]
  have := List.find?_eq_none.mp fresh x m
  simpa using this

theorem State.accrueOutage_map (s : State) {α : Type} (f : Purchase → α)
    (same : ∀ e n, f { e with outage := n } = f e) : s.accrueOutage.pu.purchases.map f = s.pu.purchases.map f := by
  simp only [State.accrueOutage, List.map_map]
  refine List.map_congr_left fun e _ => ?_
  simp only [Function.comp]
  split
  · exact same e _
  · rfl

theorem State.accrueOutage_purchaseLaw {s : State} (law : s.PurchaseLaw) : s.accrueOutage.PurchaseLaw := by
  refine ⟨?_, ?_⟩
  · simpa [State.accrueOutage] using law.1
  · rw [s.accrueOutage_map (·.title) fun _ _ => rfl]
    exact law.2

/-! ## The queue (R152 to R155) -/

/-- R155: a test that leaves the flag clear finds the depth below the high mark. -/
theorem holdTest_clear {high low depth : Nat} {hold : Bool} (h : holdTest high low depth hold = false) : depth < high := by
  unfold holdTest at h
  split at h
  · exact absurd h (by simp)
  · omega

/-- R154: the marks as a ROOM_SETTINGS stores them. -/
theorem settingsFields_marks (u : Unit96) : 8 ≤ (settingsFields u).high ∧ (settingsFields u).high ≤ 40 ∧
    (settingsFields u).low < (settingsFields u).high := by
  simp only [settingsFields, clampHigh, clampLow, clampTo]
  omega

theorem releaseFrom_queue (high low n : Nat) (queue : List BillingRecord) (hold : Bool) :
    (releaseFrom high low n queue hold).1 = queue.dropWhile (·.releasable n) := by
  induction queue generalizing hold with
  | nil => rfl
  | cons r rs ih =>
    unfold releaseFrom
    split
    · next passes => simp [ih, passes]
    · next fails => simp [fails]

theorem releaseFrom_hold (high low n : Nat) (queue : List BillingRecord) (hold : Bool)
    (law : hold = false → queue.length < high) (clear : (releaseFrom high low n queue hold).2 = false) :
    (releaseFrom high low n queue hold).1.length < high := by
  induction queue generalizing hold with
  | nil => exact law clear
  | cons r rs ih =>
    unfold releaseFrom at clear ⊢
    split at clear
    · next passes =>
      rw [if_pos passes]
      exact ih _ (fun h => holdTest_clear h) clear
    · next fails =>
      rw [if_neg fails]
      exact law clear

/-- The laws of BQ that the reserve rests on. -/
structure BillingQueue.Kept (a b : BillingQueue) : Prop where
  high : b.high = a.high
  low  : b.low = a.low
  hold : b.HoldLaw

theorem BillingQueue.append_kept (bq : BillingQueue) (r : BillingRecord) : bq.Kept (bq.append r) :=
  ⟨rfl, rfl, fun clear => by simpa [BillingQueue.append] using holdTest_clear clear⟩

theorem BillingQueue.Kept.marks {a b : BillingQueue} (h : a.Kept b) (law : a.MarksLaw) : b.MarksLaw := by
  unfold BillingQueue.MarksLaw
  rw [h.high, h.low]
  exact law

theorem BillingQueue.release_queue (bq : BillingQueue) (n : Nat) :
    (bq.release n).queue = bq.queue.dropWhile (·.releasable n) := releaseFrom_queue _ _ _ _ _

theorem BillingQueue.release_kept {bq : BillingQueue} (n : Nat) (law : bq.HoldLaw) : bq.Kept (bq.release n) :=
  ⟨rfl, rfl, releaseFrom_hold _ _ _ _ _ law⟩

theorem BillingQueue.markSent_kept {bq : BillingQueue} (seqs : List Nat) (law : bq.HoldLaw) : bq.Kept (bq.markSent seqs) :=
  ⟨rfl, rfl, fun clear => by simpa [BillingQueue.markSent] using law clear⟩

/-- R159: handing a return unit over marks records, or leaves BQ alone. -/
theorem State.handReturn_bq (s : State) (r : ReturnUnit) : (s.handReturn r).bq = s.bq ∨
    ∃ seqs, (s.handReturn r).bq = s.bq.markSent seqs := by
  unfold State.handReturn
  split_ifs
  · exact .inr ⟨_, rfl⟩
  · exact .inl rfl
  · exact .inl rfl

theorem State.endReturn_bq (s : State) : s.endReturn.bq = s.bq ∨ ∃ seqs, s.endReturn.bq = s.bq.markSent seqs := by
  unfold State.endReturn
  split
  · exact .inl rfl
  · exact .inr ⟨_, rfl⟩

/-! ### The reserve (R153) -/

/-- R153: the reserve under a change that keeps the marks and takes no more places together. -/
theorem State.ReserveLaw.of_kept {s t : State} (law : s.ReserveLaw) (purchases : t.PurchaseLaw) (queue : s.bq.Kept t.bq)
    (places : t.bq.queue.length + t.pu.purchases.length ≤ s.bq.queue.length + s.pu.purchases.length) : t.ReserveLaw :=
  ⟨purchases, queue.marks law.2.1, queue.hold, places.trans law.2.2.2⟩

/-- R125: the removal of an open title frees a place. -/
theorem length_filter_title_lt {l : List Purchase} {e : Purchase} (m : e ∈ l) :
    (l.filter (·.title != e.title)).length < l.length :=
  List.length_filter_lt_length_iff_exists.mpr ⟨e, m, by simp⟩

theorem State.closePurchase_bq (s : State) (e : Purchase) (time : Nat) : (s.closePurchase e time).bq =
    if 0 < creditOf e.charge e.outage e.window then
      s.bq.append (s.makeRecord e .credit (creditOf e.charge e.outage e.window) time)
    else s.bq := by
  unfold State.closePurchase
  dsimp only
  split <;> rfl

theorem State.closePurchase_reserveLaw (s : State) (e : Purchase) (time : Nat) (bought : s.purchase e.title = some e)
    (law : s.ReserveLaw) : (s.closePurchase e time).ReserveLaw := by
  have freed := length_filter_title_lt (State.mem_of_purchase bought)
  have purchases : (s.closePurchase e time).PurchaseLaw := by
    unfold State.PurchaseLaw
    rw [State.closePurchase_purchases]
    exact PurchaseLaw.filter _ law.1
  refine law.of_kept purchases ?_ ?_
  · rw [State.closePurchase_bq]
    split
    · exact s.bq.append_kept _
    · exact ⟨rfl, rfl, law.2.2.1⟩
  · rw [State.closePurchase_bq, State.closePurchase_purchases]
    split
    · simp only [BillingQueue.append, List.length_append, List.length_singleton]; omega
    · omega

theorem Act.keeps_reserveLaw {s t : State} (h : Act s t) (law : s.ReserveLaw) : t.ReserveLaw := by
  have law' := law
  obtain ⟨purchases, marks, hold, places⟩ := law'
  cases h with
  | buy e occupied fresh open' room cap =>
    have deep : s.bq.queue.length < s.bq.high := hold open'
    refine ⟨PurchaseLaw.append purchases fresh room, marks, (s.bq.append_kept _).hold, ?_⟩
    simp only [State.bill, BillingQueue.append, State.raiseSpend_pu, State.raiseSpend_bq, List.length_append,
      List.length_singleton]
    simp only [purchaseMax] at room
    have := marks.2.1
    omega
  | void e bought =>
    have freed := length_filter_title_lt (State.mem_of_purchase bought)
    refine law.of_kept (PurchaseLaw.filter _ purchases) (s.bq.append_kept _) ?_
    simp only [State.bill, BillingQueue.append, State.lowerSpend_pu, State.lowerSpend_bq, State.removePurchase_bq,
      State.removePurchase_pu, List.length_append, List.length_singleton]
    omega
  | close e time bought => exact s.closePurchase_reserveLaw e time bought law
  | closeAll => exact State.closeAll_induction (fun t e time => t.closePurchase_reserveLaw e time) purchases.2 law
  | settings u => exact ⟨purchases, settingsFields_marks u, fun clear => holdTest_clear clear, places⟩
  | accrueOutage =>
    have same : s.accrueOutage.pu.purchases.length = s.pu.purchases.length := by simp [State.accrueOutage]
    exact ⟨State.accrueOutage_purchaseLaw purchases, marks, hold, by rw [same]; exact places⟩
  | release n =>
    have shorter : (s.bq.release n).queue.length ≤ s.bq.queue.length := by
      rw [BillingQueue.release_queue]
      exact (List.dropWhile_sublist _).length_le
    have kept : ∀ t : State, t.bq = s.bq.release n → t.pu = s.pu → t.ReserveLaw := fun t bq pu =>
      law.of_kept (by rw [State.PurchaseLaw, pu]; exact purchases) (bq ▸ BillingQueue.release_kept n hold)
        (by rw [bq, pu]; omega)
    obtain e | ⟨_, e⟩ := s.releaseTo_cases n <;> rw [e] <;> exact kept _ rfl rfl
  | handReturn r =>
    have pu := (s.handReturn_frame r).2.1
    refine law.of_kept (by rw [State.PurchaseLaw, pu]; exact purchases) ?_ ?_
    · obtain e | ⟨seqs, e⟩ := s.handReturn_bq r <;> rw [e]
      · exact ⟨rfl, rfl, hold⟩
      · exact BillingQueue.markSent_kept seqs hold
    · rw [pu]
      obtain e | ⟨seqs, e⟩ := s.handReturn_bq r <;> simp [e, BillingQueue.markSent]
  | endReturn =>
    have pu := s.endReturn_frame.2.1
    refine law.of_kept (by rw [State.PurchaseLaw, pu]; exact purchases) ?_ ?_
    · obtain e | ⟨seqs, e⟩ := s.endReturn_bq <;> rw [e]
      · exact ⟨rfl, rfl, hold⟩
      · exact BillingQueue.markSent_kept seqs hold
    · rw [pu]
      obtain e | ⟨seqs, e⟩ := s.endReturn_bq <;> simp [e, BillingQueue.markSent]
  | migrate =>
    unfold State.ReserveLaw State.PurchaseLaw
    rw [State.migrate_pu, State.migrate_bq]
    exact law
  | breakSilence =>
    have pu : s.breakSilence.pu.purchases = s.pu.purchases := by
      unfold State.breakSilence
      dsimp only
      split <;> rfl
    unfold State.ReserveLaw State.PurchaseLaw
    rw [pu]
    exact law
  | _ => exact law

/-! ### Sequence numbers (R152) -/

theorem consecutive_append {next n : Nat} {queue : List BillingRecord} {r : BillingRecord} (h : consecutive next n queue = true)
    (seq : r.seq = next) : consecutive ((next + 1) % 65536) n (queue ++ [r]) = true := by
  induction queue generalizing n with
  | nil =>
    simp only [consecutive, beq_iff_eq] at h
    simp [consecutive, seq, h]
  | cons x queue ih =>
    simp only [consecutive, Bool.and_eq_true, List.cons_append] at h ⊢
    exact ⟨h.1, ih h.2⟩

/-- R152: the head of the queue carries the number that the run begins with. -/
theorem consecutive_headSeq {next n : Nat} {queue : List BillingRecord} (h : consecutive next n queue = true) :
    (queue.head?.map (·.seq)).getD next = n := by
  cases queue with
  | nil => simpa [consecutive] using Eq.symm (by simpa [consecutive] using h : n = next)
  | cons x queue =>
    simp only [consecutive, Bool.and_eq_true, beq_iff_eq] at h
    simpa using h.1

theorem BillingQueue.append_sequenceLaw {bq : BillingQueue} {r : BillingRecord} (law : bq.SequenceLaw)
    (seq : r.seq = bq.nextSeq) : (bq.append r).SequenceLaw := by
  have run := consecutive_append law.2 seq
  refine ⟨Nat.mod_lt _ (by decide), ?_⟩
  have head : (bq.append r).headSeq = bq.headSeq := consecutive_headSeq run
  rw [head]
  exact run

theorem consecutive_dropWhile {next n : Nat} {queue : List BillingRecord} (p : BillingRecord → Bool)
    (h : consecutive next n queue = true) : ∃ m, consecutive next m (queue.dropWhile p) = true := by
  induction queue generalizing n with
  | nil => exact ⟨n, h⟩
  | cons x queue ih =>
    by_cases passes : p x = true
    · rw [List.dropWhile_cons_of_pos passes]
      simp only [consecutive, Bool.and_eq_true] at h
      exact ih h.2
    · rw [List.dropWhile_cons_of_neg passes]
      exact ⟨n, h⟩

theorem BillingQueue.release_sequenceLaw {bq : BillingQueue} (n : Nat) (law : bq.SequenceLaw) :
    (bq.release n).SequenceLaw := by
  obtain ⟨m, run⟩ := consecutive_dropWhile (·.releasable n) law.2
  rw [← BillingQueue.release_queue] at run
  refine ⟨law.1, ?_⟩
  have head : (bq.release n).headSeq = m := consecutive_headSeq run
  rw [head]
  exact run

theorem BillingQueue.markSent_sequenceLaw {bq : BillingQueue} (seqs : List Nat) (law : bq.SequenceLaw) :
    (bq.markSent seqs).SequenceLaw := by
  have run : ∀ (queue : List BillingRecord) (n : Nat), consecutive bq.nextSeq n queue = true →
      consecutive bq.nextSeq n (queue.map fun r => if seqs.contains r.seq then { r with sent := true } else r) = true := by
    intro queue
    induction queue with
    | nil => exact fun _ h => h
    | cons x queue ih =>
      intro n h
      simp only [consecutive, Bool.and_eq_true, List.map_cons] at h ⊢
      refine ⟨?_, ih _ h.2⟩
      split <;> exact h.1
  have run' := run bq.queue _ law.2
  refine ⟨law.1, ?_⟩
  have head : (bq.markSent seqs).headSeq = bq.headSeq := consecutive_headSeq run'
  rw [head]
  exact run'

theorem State.closePurchase_sequenceLaw (s : State) (e : Purchase) (time : Nat) (law : s.bq.SequenceLaw) :
    (s.closePurchase e time).bq.SequenceLaw := by
  rw [State.closePurchase_bq]
  split
  · exact BillingQueue.append_sequenceLaw law rfl
  · exact law

theorem Act.keeps_sequenceLaw {s t : State} (h : Act s t) (law : s.bq.SequenceLaw) : t.bq.SequenceLaw := by
  cases h with
  | buy e => exact BillingQueue.append_sequenceLaw law rfl
  | void e => exact BillingQueue.append_sequenceLaw (r := State.makeRecord _ e .void e.charge s.su.clock) law rfl
  | close e time => exact s.closePurchase_sequenceLaw e time law
  | closeAll =>
    exact List.foldlRecOn (motive := fun t : State => t.bq.SequenceLaw) _ _ law fun t ih e _ =>
      t.closePurchase_sequenceLaw e s.su.clock ih
  | release n => rw [State.releaseTo_bq]; exact BillingQueue.release_sequenceLaw n law
  | handReturn r =>
    obtain e | ⟨seqs, e⟩ := s.handReturn_bq r <;> rw [e]
    · exact law
    · exact BillingQueue.markSent_sequenceLaw seqs law
  | endReturn =>
    obtain e | ⟨seqs, e⟩ := s.endReturn_bq <;> rw [e]
    · exact law
    · exact BillingQueue.markSent_sequenceLaw seqs law
  | migrate => rw [State.migrate_bq]; exact law
  | _ => exact law

/-! ## Money (R6) -/

/-- R147: a credit is never more than the charge. -/
theorem creditOf_le (charge outage window : Nat) : creditOf charge outage window ≤ charge := by
  unfold creditOf
  split_ifs with short half
  · exact Nat.zero_le _
  · exact le_rfl
  · exact Nat.div_le_of_le_mul (by rw [Nat.mul_comm window]; exact Nat.mul_le_mul_left charge (by omega))

/-- R6: what the removal of an open title takes from the open charges. -/
theorem sum_filter_title {l : List Purchase} {e : Purchase} (m : e ∈ l) :
    ((l.filter (·.title != e.title)).map (·.charge)).sum + e.charge ≤ (l.map (·.charge)).sum := by
  have less : ∀ l : List Purchase, ((l.filter (·.title != e.title)).map (·.charge)).sum ≤ (l.map (·.charge)).sum :=
    fun l => (List.filter_sublist.map _).sum_le_sum (by simp)
  induction l with
  | nil => simp at m
  | cons x l ih =>
    by_cases here : x.title = e.title
    · rw [List.filter_cons_of_neg (by simpa using here), List.map_cons, List.sum_cons]
      rcases List.mem_cons.mp m with rfl | m
      · have := less l
        omega
      · have := ih m
        omega
    · rw [List.filter_cons_of_pos (by simpa using here), List.map_cons, List.map_cons, List.sum_cons, List.sum_cons]
      rcases List.mem_cons.mp m with rfl | m
      · exact absurd rfl here
      · have := ih m
        omega

/-- R6: the law under the removal of an open title that gives back no more than its charge. -/
theorem State.MoneyLaw.remove {s t : State} (law : s.MoneyLaw) {e : Purchase} (m : e ∈ s.pu.purchases) {credit : Nat}
    (some : credit ≤ e.charge) (purchases : t.pu.purchases = s.pu.purchases.filter (·.title != e.title))
    (spend : t.su.spend = s.su.spend - credit) (cap : t.su.cap = s.su.cap) (occupancy : t.su.occupancy = s.su.occupancy) :
    t.MoneyLaw := by
  obtain ⟨bought, capLaw, spendLaw, covered, closed⟩ := law
  have taken := sum_filter_title m
  unfold State.openCharges at covered
  refine ⟨?_, by rw [cap]; exact capLaw, by rw [spend]; exact (Nat.sub_le _ _).trans spendLaw, ?_, ?_⟩
  · rw [State.PurchaseLaw, purchases]
    exact PurchaseLaw.filter _ bought
  · rw [State.openCharges, purchases, spend]
    omega
  · intro vacant
    rw [purchases, closed (by rw [← occupancy]; exact vacant)]
    rfl

theorem State.closePurchase_spend (s : State) (e : Purchase) (time : Nat) : (s.closePurchase e time).su =
    { s.su with spend := s.su.spend - creditOf e.charge e.outage e.window } := by
  unfold State.closePurchase
  dsimp only
  split
  · rfl
  · next none => rw [Nat.eq_zero_of_not_pos none]; rfl

theorem State.closePurchase_moneyLaw (s : State) (e : Purchase) (time : Nat) (bought : s.purchase e.title = some e)
    (law : s.MoneyLaw) : (s.closePurchase e time).MoneyLaw :=
  law.remove (State.mem_of_purchase bought) (creditOf_le _ _ _) (s.closePurchase_purchases e time)
    (by rw [State.closePurchase_spend]) (by rw [State.closePurchase_spend]) (by rw [State.closePurchase_spend])

/-- The law reads the purchases, the spend, the cap and the occupancy alone. -/
theorem State.MoneyLaw.congr {s t : State} (law : s.MoneyLaw) (purchases : t.pu.purchases = s.pu.purchases)
    (spend : t.su.spend = s.su.spend) (cap : t.su.cap = s.su.cap)
    (occupancy : t.su.occupancy = .occupied ↔ s.su.occupancy = .occupied) : t.MoneyLaw := by
  unfold State.MoneyLaw State.PurchaseLaw State.openCharges
  rw [purchases, spend, cap, ne_eq, occupancy]
  exact law

theorem Act.keeps_moneyLaw {s t : State} (h : Act s t) (law : s.MoneyLaw) : t.MoneyLaw := by
  have law' := law
  obtain ⟨purchases, cap, spend, covered, closed⟩ := law'
  cases h with
  | buy e occupied fresh open' room within =>
    refine ⟨PurchaseLaw.append purchases fresh room, cap, within.trans cap, ?_, fun vacant => ?_⟩
    · simp only [State.openCharges, State.bill_pu, State.raiseSpend_pu, List.map_append, List.sum_append, List.map_singleton,
        List.sum_singleton, State.bill_su, State.raiseSpend_su]
      exact Nat.add_le_add_right covered _
    · exact absurd (by simpa [State.isOccupied] using occupied) vacant
  | void e bought => exact law.remove (State.mem_of_purchase bought) le_rfl rfl rfl rfl rfl
  | close e time bought => exact s.closePurchase_moneyLaw e time bought law
  | closeAll => exact State.closeAll_induction (fun t e time => t.closePurchase_moneyLaw e time) purchases.2 law
  | openStay u vacant =>
    have none : s.pu.purchases = [] := closed (by simpa [State.isOccupied] using vacant)
    refine ⟨purchases, Nat.min_le_right _ _, Nat.zero_le _, ?_, fun other => absurd rfl other⟩
    simp [State.openCharges, none]
  | endStay empty => exact ⟨purchases, cap, spend, covered, fun _ => empty⟩
  | settings u => exact ⟨purchases, Nat.min_le_right _ _, spend, covered, closed⟩
  | accrueOutage =>
    refine ⟨State.accrueOutage_purchaseLaw purchases, cap, spend, ?_, fun vacant => ?_⟩
    · rw [State.openCharges, s.accrueOutage_map (·.charge) fun _ _ => rfl]
      exact covered
    · simp [State.accrueOutage, closed vacant]
  | release n =>
    obtain e | ⟨settling, e⟩ := s.releaseTo_cases n <;> rw [e]
    · exact law
    · exact law.congr rfl rfl rfl (by simp [settling])
  | tick =>
    have su : s.su.tickClock.countSilence.spend = s.su.spend ∧ s.su.tickClock.countSilence.cap = s.su.cap ∧
        s.su.tickClock.countSilence.occupancy = s.su.occupancy := by
      unfold StayUnit.countSilence
      split <;> exact ⟨rfl, rfl, rfl⟩
    exact law.congr rfl su.1 su.2.1 (by rw [su.2.2])
  | breakSilence =>
    refine law.congr ?_ rfl rfl Iff.rfl
    unfold State.breakSilence
    dsimp only
    split <;> rfl
  | handReturn r =>
    obtain ⟨su, pu, _⟩ := s.handReturn_frame r
    exact law.congr (by rw [pu]) (by rw [su]) (by rw [su]) (by rw [su])
  | endReturn =>
    obtain ⟨su, pu, _⟩ := s.endReturn_frame
    exact law.congr (by rw [pu]) (by rw [su]) (by rw [su]) (by rw [su])
  | migrate => exact law.congr (by simp) (by simp) (by simp) (by simp)
  | _ => exact law

/-- Settles O55: each law is kept by every plain write (`step_keeps`). A purchase is opened only below the high mark and
below 8, and every removal that appends a record frees a place (R153); an append takes the next number (R152); a credit is
never more than the charge it gives back (R6). -/
theorem stepsKeepTheQueueAndTheMoney : Obligations.StepsKeepTheQueueAndTheMoney := by
  intro s t h
  refine ⟨?_, ?_, ?_⟩
  · exact step_keeps (P := State.ReserveLaw) (fun _ _ => Act.keeps_reserveLaw) (fun _ _ _ _ => id)
      (fun _ _ => ⟨⟨Nat.zero_le _, List.nodup_nil⟩, ⟨Nat.le_add_left 8 32, le_rfl, Nat.lt_add_of_pos_right (n := 32) (k := 8) (by decide)⟩,
        fun _ => Nat.zero_lt_succ 39, Nat.zero_le _⟩) h
  · exact step_keeps (P := fun s => s.bq.SequenceLaw) (fun _ _ => Act.keeps_sequenceLaw) (fun _ _ _ _ => id)
      (fun _ _ => ⟨Nat.zero_lt_succ 65535, rfl⟩) h
  · exact step_keeps (P := State.MoneyLaw) (fun _ _ => Act.keeps_moneyLaw) (fun _ _ _ _ => id)
      (fun _ _ => ⟨⟨Nat.zero_le _, List.nodup_nil⟩, Nat.zero_le _, Nat.zero_le _, Nat.zero_le _, fun _ => rfl⟩) h

end Sys2Proof.Machine
end

section
/-! The law of the lock record (R105, R113), kept by every step. -/

namespace Sys2Proof.Machine

/-- The law reads the ceiling, the PIN, the failures, the lockout, strict mode and whether the room is OCCUPIED. -/
theorem State.LockLaw.congr {s t : State} (law : s.LockLaw) (ceiling : t.lu.ceiling ≤ 7) (pin : t.lu.pin = s.lu.pin)
    (failures : t.lu.failures = s.lu.failures) (lockout : t.lu.lockout = s.lu.lockout) (strict : t.lu.strict = s.lu.strict)
    (occupancy : t.su.occupancy = .occupied ↔ s.su.occupancy = .occupied) : t.LockLaw := by
  obtain ⟨_, below, zero, bare, digits, vacant⟩ := law
  unfold State.LockLaw LockUnit.budget
  rw [pin, failures, lockout, strict, ne_eq, ne_eq, occupancy]
  exact ⟨ceiling, below, zero, bare, digits, vacant⟩

/-- R106: the budget is 2 or 5. -/
theorem LockUnit.two_le_budget (lu : LockUnit) : 2 ≤ lu.budget := by
  unfold LockUnit.budget
  split <;> omega

/-- R115: the budget grows when strict mode ends. -/
theorem LockUnit.budget_le (lu : LockUnit) : lu.budget ≤ ({ lu with strict := none } : LockUnit).budget := by
  unfold LockUnit.budget
  split <;> simp

/-- A lock with no PIN, no failures, no lockout and no strict mode. -/
theorem State.LockLaw.bare {s : State} (ceiling : s.lu.ceiling ≤ 7) (pin : s.lu.pin = none) (failures : s.lu.failures = 0)
    (lockout : s.lu.lockout = none) (strict : s.lu.strict = none) : s.LockLaw := by
  refine ⟨ceiling, fun _ => ?_, fun some => absurd lockout some, fun _ => ⟨failures, lockout, strict⟩, ?_, fun _ => pin⟩
  · have := s.lu.two_le_budget
    omega
  · rw [pin]
    exact fun _ h => absurd h (by simp)

/-- R105, R113: the law while a PIN is set, for the fields that failures and their consequences write. -/
theorem State.LockLaw.write {s t : State} (law : s.LockLaw) (set : s.lu.pin ≠ none) (ceiling : t.lu.ceiling = s.lu.ceiling)
    (pin : t.lu.pin = s.lu.pin) (su : t.su = s.su) (below : t.lu.lockout = none → t.lu.failures < t.lu.budget)
    (zero : t.lu.lockout ≠ none → t.lu.failures = 0) : t.LockLaw := by
  obtain ⟨range, _, _, _, digits, vacant⟩ := law
  refine ⟨by rw [ceiling]; exact range, below, zero, fun none => absurd (pin ▸ none) set, by rw [pin]; exact digits, ?_⟩
  rw [su, pin]
  exact vacant

/-- R105: a lockout needs a PIN. -/
theorem State.LockLaw.pin_of_lockout {s : State} (law : s.LockLaw) (locked : s.lu.lockout ≠ none) : s.lu.pin ≠ none := by
  obtain ⟨_, _, _, bare, _⟩ := law
  exact fun none => locked (bare none).2.1

theorem DueFrame.occupancy {s t : State} (h : DueFrame s t) : t.su.occupancy = s.su.occupancy := by rw [h.su]

theorem State.closePurchase_lu (s : State) (e : Purchase) (time : Nat) : (s.closePurchase e time).lu = s.lu := by
  unfold State.closePurchase
  dsimp only
  split <;> rfl

@[simp] theorem State.closeAll_lu (s : State) : s.closeAll.lu = s.lu :=
  List.foldlRecOn (motive := fun t : State => t.lu = s.lu) _ _ rfl fun t ih e _ =>
    (State.closePurchase_lu t e s.su.clock).trans ih

theorem StayUnit.countSilence_occupancy (su : StayUnit) : su.countSilence.occupancy = su.occupancy := by
  unfold StayUnit.countSilence
  split <;> rfl

theorem Act.keeps_lockLaw {s t : State} (h : Act s t) (law : s.LockLaw) : t.LockLaw := by
  have law' := law
  obtain ⟨ceiling, below, zero, bare, digits, vacant⟩ := law'
  /- An act that leaves LU and the occupancy alone. -/
  have kept : ∀ {t : State}, t.lu = s.lu → t.su.occupancy = s.su.occupancy → t.LockLaw := fun lu occupancy =>
    law.congr (by rw [lu]; exact ceiling) (by rw [lu]) (by rw [lu]) (by rw [lu]) (by rw [lu]) (by rw [occupancy])
  cases h with
  | ceiling value range => exact law.congr range rfl rfl rfl rfl Iff.rfl
  | clearPin => exact State.LockLaw.bare ceiling rfl rfl rfl rfl
  | cutLockout =>
    by_cases locked : s.lu.lockout = none
    · exact law.congr ceiling rfl rfl locked.symm rfl Iff.rfl
    · refine law.write (law.pin_of_lockout locked) rfl rfl rfl (fun _ => ?_) fun some => absurd rfl some
      have none : s.lu.failures = 0 := zero locked
      exact none ▸ Nat.lt_of_lt_of_le Nat.zero_lt_two (LockUnit.two_le_budget _)
  | forgive unlocked =>
    by_cases set : s.lu.pin = none
    · exact law.congr ceiling rfl (bare set).1.symm rfl rfl Iff.rfl
    · refine law.write set rfl rfl rfl (fun _ => ?_) fun _ => rfl
      exact Nat.lt_of_lt_of_le Nat.zero_lt_two (LockUnit.two_le_budget _)
  | storePin pin occupied unlocked long short digits =>
    have failures : (s.lu.storePin pin).failures ≤ s.lu.failures := by
      unfold LockUnit.storePin
      dsimp only
      split
      · exact Nat.zero_le _
      · exact le_rfl
    refine ⟨ceiling, fun _ => Nat.lt_of_le_of_lt failures (below unlocked), fun locked => absurd unlocked locked,
      fun none => absurd none (by simp [LockUnit.storePin]), ?_, fun other => ?_⟩
    · intro ds h
      obtain rfl : pin = ds := Option.some.inj h
      exact ⟨long, short, digits⟩
    · exact absurd (by simpa [State.isOccupied] using occupied) other
  | countFailure set unlocked spare =>
    refine law.write set rfl rfl rfl (fun _ => ?_) fun locked => absurd unlocked locked
    have budget : (s.lu.countFailure s.su.clock).budget = s.lu.budget := by
      simp [LockUnit.budget, LockUnit.countFailure]
    rw [budget] at spare
    show (s.lu.countFailure s.su.clock).failures < (s.lu.countFailure s.su.clock).budget
    rw [budget]
    exact lt_of_le_of_ne (below unlocked) spare
  | startLockout set => exact law.write set rfl rfl rfl (fun none => absurd none (Option.some_ne_none _)) fun _ => rfl
  | endLockout due locked =>
    have some : s.lu.lockout ≠ none := by simp [locked]
    refine law.write (law.pin_of_lockout some) rfl rfl rfl (fun _ => ?_) fun other => absurd rfl other
    have none : s.lu.failures = 0 := zero some
    exact none ▸ Nat.lt_of_lt_of_le Nat.zero_lt_two (LockUnit.two_le_budget _)
  | endStrict =>
    by_cases set : s.lu.pin = none
    · exact law.congr ceiling rfl rfl rfl (bare set).2.2.symm Iff.rfl
    · exact law.write set rfl rfl rfl (fun unlocked => (below unlocked).trans_le s.lu.budget_le) zero
  | openStay u => exact State.LockLaw.bare (Nat.min_le_right _ _) rfl rfl rfl rfl
  | endStay => exact State.LockLaw.bare ceiling rfl rfl rfl rfl
  | tick => exact kept rfl (StayUnit.countSilence_occupancy _)
  | handReturn r =>
    obtain ⟨su, _, _, _, _, lu, _⟩ := s.handReturn_frame r
    exact kept lu (by rw [su])
  | endReturn =>
    obtain ⟨su, _, _, _, _, lu, _⟩ := s.endReturn_frame
    exact kept lu (by rw [su])
  | migrate => exact kept (by simp) (by simp)
  | closeAll => exact kept (by simp) s.closeAll_frame.occupancy
  | close e time => exact kept (s.closePurchase_lu e time) (s.closePurchase_due e time).occupancy
  | release n =>
    obtain e | ⟨settling, e⟩ := s.releaseTo_cases n <;> rw [e]
    · exact law
    · exact law.congr ceiling rfl rfl rfl rfl (by simp [settling])
  | unlocks v => exact law.congr ceiling rfl rfl rfl rfl Iff.rfl
  | freeze frozen => exact law.congr ceiling rfl rfl rfl rfl Iff.rfl
  | _ => exact kept rfl rfl

/-- Settles O56: every plain write keeps the law (`Act.keeps_lockLaw`). A failure is counted only outside a lockout and below
the budget, a lockout starts with none, and what leaves OCCUPIED clears the PIN. -/
theorem stepsKeepTheLock : Obligations.StepsKeepTheLock := fun _ _ h =>
  step_keeps (P := State.LockLaw) (fun _ _ => Act.keeps_lockLaw) (fun _ _ _ _ => id)
    (fun _ _ => State.LockLaw.bare (Nat.le_add_right 5 2) rfl rfl rfl rfl) h

end Sys2Proof.Machine
end

section
/-! The laws of the key store (R51, R53, R55), of the tables (R22, R32, R36, R41), of the Preview List (R96) and of the
timers (R90, R91, R93), each kept by every plain write. -/

namespace Sys2Proof.Machine

/-! ## The key store, place by place (R51, R53) -/

@[simp] theorem KeySet.way_setWay (st : KeySet) (e : Option KeyEntry) (w w' : Way) :
    (st.setWay e w).way w' = if w' = w then e else st.way w' := by
  cases w <;> cases w' <;> rfl

theorem KeyStore.at_way (ks : KeyStore) (g : Nat) (w : Way) : ks.at g (.way w) = ks.sets[setOf g].way w := rfl

/-- R51: every group belongs to one of the 32 sets. -/
theorem setOf_val (i : Fin 32) : setOf i.val = i := Fin.ext (Nat.mod_eq_of_lt i.isLt)

theorem KeyStore.setSet_at (ks : KeyStore) (g g' : Nat) (st : KeySet) (w : Way) :
    (ks.setSet g st).at g' (.way w) = if setOf g' = setOf g then st.way w else ks.at g' (.way w) := by
  simp only [KeyStore.at, KeyStore.setSet]
  by_cases same : setOf g' = setOf g
  · simp [same]
  · have : (setOf g).val ≠ (setOf g').val := fun e => same (Fin.ext e.symm)
    simp [same, Vector.getElem_set_ne _ _ this]

/-- What stands at each place after an entry has been put at one. -/
theorem KeyStore.at_put (ks : KeyStore) (g g' : Nat) (e : Option KeyEntry) (place place' : Place) :
    (ks.put g e place).at g' place' =
      if place' = place ∧ (place = .slot ∨ setOf g' = setOf g) then e else ks.at g' place' := by
  cases place with
  | slot =>
    cases place' with
    | slot => simp [KeyStore.put, KeyStore.at]
    | way w' => simp [KeyStore.put, KeyStore.at]
  | way w =>
    cases place' with
    | slot => simp [KeyStore.put, KeyStore.at, KeyStore.setSet]
    | way w' =>
      rw [KeyStore.put, KeyStore.setSet_at]
      by_cases same : setOf g' = setOf g
      · simp [same, KeyStore.at]
      · simp [same]

/-- R54: a mark moves no entry. -/
@[simp] theorem KeyStore.at_mark (ks : KeyStore) (g g' : Nat) (w : Way) (place : Place) :
    (ks.mark g w).at g' place = ks.at g' place := by
  cases place with
  | slot => rfl
  | way w' =>
    rw [KeyStore.mark, KeyStore.setSet_at]
    split
    · next same =>
      simp only [KeyStore.at, same]
      cases w' <;> rfl
    · rfl

/-- R51, R53, R55: the law place by place: every entry is lawful and stands in its set, and a group stands in one place. -/
theorem KeyStore.storeLaw_iff (ks : KeyStore) : ks.StoreLaw ↔
    (∀ g place x, ks.at g place = some x → x.lawful = true ∧ (place ≠ .slot → setOf x.group = setOf g)) ∧
    ∀ g place place' x y, ks.at g place = some x → ks.at g place' = some y → x.group = y.group → place = place' := by
  constructor
  · intro law
    have law' := law
    obtain ⟨ways, slot, -⟩ := law'
    have home : ∀ g w x, ks.at g (.way w) = some x → x.lawful = true ∧ setOf x.group = setOf g := by
      intro g w x h
      have lawful : wayLawful (setOf g) (some x) = true := by
        rw [← h]
        cases w
        · exact (ways _).1
        · exact (ways _).2
      simpa [wayLawful] using lawful
    refine ⟨?_, ?_⟩
    · rintro g (w | _) x h
      · exact ⟨(home g w x h).1, fun _ => (home g w x h).2⟩
      · exact ⟨slot x h, fun other => absurd rfl other⟩
    · intro g place place' x y hx hy same
      obtain ⟨apart, slots⟩ := law.apart (setOf g)
      rcases place with (_ | _) | _ <;> rcases place' with (_ | _) | _
      · rfl
      · exact absurd same (apart x y hx hy)
      · exact absurd same ((slots y hy).1 x hx)
      · exact absurd same.symm (apart y x hy hx)
      · rfl
      · exact absurd same ((slots y hy).2 x hx)
      · exact absurd same.symm ((slots x hx).1 y hy)
      · exact absurd same.symm ((slots x hx).2 y hy)
      · rfl
  · rintro ⟨lawful, one⟩
    have at0 : ∀ (i : Fin 32) x, ks.sets[i].way0 = some x → ks.at i.val (.way .way0) = some x := by
      intro i x h
      simp only [KeyStore.at, setOf_val]
      exact h
    have at1 : ∀ (i : Fin 32) x, ks.sets[i].way1 = some x → ks.at i.val (.way .way1) = some x := by
      intro i x h
      simp only [KeyStore.at, setOf_val]
      exact h
    have way : ∀ (i : Fin 32) (w : Way) (o : Option KeyEntry), (∀ x, o = some x → ks.at i.val (.way w) = some x) →
        wayLawful i o = true := by
      intro i w o h
      cases o with
      | none => rfl
      | some x =>
        obtain ⟨l, m⟩ := lawful i.val _ x (h x rfl)
        have home := m (by simp)
        rw [setOf_val] at home
        simp [wayLawful, l, home]
    have mem : ∀ (i : Fin 32) x, x ∈ ks.sets[i].way0.toList ++ ks.sets[i].way1.toList →
        ∃ w, ks.at i.val (.way w) = some x := by
      intro i x m
      rcases List.mem_append.mp m with h | h
      · exact ⟨.way0, at0 i x (by simpa using h)⟩
      · exact ⟨.way1, at1 i x (by simpa using h)⟩
    refine ⟨fun i => ⟨way i .way0 _ (at0 i), way i .way1 _ (at1 i)⟩, fun e m => (lawful 0 .slot e m).1, ?_⟩
    rw [KeyStore.entries, List.map_append, List.nodup_append]
    refine ⟨?_, ?_, ?_⟩
    · rw [List.map_flatMap, List.nodup_flatMap]
      refine ⟨fun st m => ?_, ?_⟩
      · obtain ⟨i, hi, rfl⟩ := List.mem_iff_getElem.mp m
        have hi' : i < 32 := by simpa using hi
        have a0 := at0 ⟨i, hi'⟩
        have a1 := at1 ⟨i, hi'⟩
        simp only [Vector.getElem_toList, Fin.getElem_fin] at a0 a1 ⊢
        cases e0 : ks.sets[i].way0 with
        | none => cases ks.sets[i].way1 <;> simp
        | some x =>
          cases e1 : ks.sets[i].way1 with
          | none => simp
          | some y =>
            have : x.group ≠ y.group := fun same =>
              absurd (one i _ _ x y (a0 x e0) (a1 y e1) same) (by simp)
            simpa using this
      · rw [List.pairwise_iff_getElem]
        intro i j hi hj lt
        have hi' : i < 32 := by simpa using hi
        have hj' : j < 32 := by simpa using hj
        simp only [Function.onFun, Vector.getElem_toList]
        intro g mi mj
        obtain ⟨x, mx, rfl⟩ := List.mem_map.mp mi
        obtain ⟨y, my, same⟩ := List.mem_map.mp mj
        obtain ⟨w, ax⟩ := mem ⟨i, hi'⟩ x mx
        obtain ⟨w', ay⟩ := mem ⟨j, hj'⟩ y my
        have hx := (lawful _ _ x ax).2 (by simp)
        have hy := (lawful _ _ y ay).2 (by simp)
        rw [setOf_val ⟨i, hi'⟩] at hx
        rw [setOf_val ⟨j, hj'⟩, same, hx] at hy
        have : i = j := congrArg Fin.val hy
        omega
    · cases ks.slot <;> simp
    · intro a ma b mb same
      obtain ⟨x, mx, rfl⟩ := List.mem_map.mp ma
      obtain ⟨y, my, rfl⟩ := List.mem_map.mp mb
      obtain ⟨st, mst, mx⟩ := List.mem_flatMap.mp mx
      obtain ⟨i, hi, rfl⟩ := List.mem_iff_getElem.mp mst
      have hi' : i < 32 := by simpa using hi
      obtain ⟨w, ax⟩ := mem ⟨i, hi'⟩ x (by simpa using mx)
      have := one i _ .slot x y ax (by simpa [KeyStore.at] using my) same
      simp at this

/-- R51, R53: an entry of a group put in a place, while no other place holds the group, keeps the law. -/
theorem KeyStore.StoreLaw.put {ks : KeyStore} (law : ks.StoreLaw) {g : Nat} {e : Option KeyEntry} (place : Place)
    (entry : ∀ x, e = some x → x.lawful = true ∧ x.group = g)
    (free : ∀ place' y, place' ≠ place → ks.at g place' = some y → y.group ≠ g) : (ks.put g e place).StoreLaw := by
  rw [KeyStore.storeLaw_iff] at law ⊢
  obtain ⟨lawful, one⟩ := law
  /- What stands anywhere after the put is the new entry, or stood there before. -/
  have found : ∀ g' place' x, (ks.put g e place).at g' place' = some x →
      (place' = place ∧ (place = .slot ∨ setOf g' = setOf g) ∧ x.lawful = true ∧ x.group = g) ∨
      (¬ (place' = place ∧ (place = .slot ∨ setOf g' = setOf g)) ∧ ks.at g' place' = some x) := by
    intro g' place' x h
    rw [KeyStore.at_put] at h
    split at h
    · next here => exact .inl ⟨here.1, here.2, entry x h⟩
    · next there => exact .inr ⟨there, h⟩
  /- An old entry elsewhere is of another group. -/
  have other : ∀ g' place' y, (place = .slot ∨ setOf g' = setOf g) → place' ≠ place → ks.at g' place' = some y →
      y.group ≠ g := by
    intro g' place' y near ne h same
    refine free place' y ne ?_ same
    rcases place' with w | _
    · have home := (lawful g' _ y h).2 (by simp)
      rw [same] at home
      simp only [KeyStore.at, home]
      exact h
    · exact h
  refine ⟨fun g' place' x h => ?_, fun g' p1 p2 x y hx hy same => ?_⟩
  · rcases found g' place' x h with ⟨rfl, near, l, group⟩ | ⟨-, h⟩
    · exact ⟨l, fun way => by rw [group]; exact (near.resolve_left way).symm⟩
    · exact lawful g' place' x h
  · rcases found g' p1 x hx with ⟨e1, near1, -, g1⟩ | ⟨n1, hx⟩ <;>
      rcases found g' p2 y hy with ⟨e2, near2, -, g2⟩ | ⟨n2, hy⟩
    · rw [e1, e2]
    · by_contra ne
      exact other g' p2 y near1 (fun e => ne (e1.trans e.symm)) hy (same.symm.trans g1)
    · by_contra ne
      exact other g' p1 x near2 (fun e => ne (e.trans e2.symm)) hx (same.trans g2)
    · exact one g' p1 p2 x y hx hy same

/-- R54: the law does not read the marks. -/
theorem KeyStore.StoreLaw.mark {ks : KeyStore} (law : ks.StoreLaw) (g : Nat) (w : Way) : (ks.mark g w).StoreLaw := by
  rw [KeyStore.storeLaw_iff] at law ⊢
  simpa only [KeyStore.at_mark] using law

/-- R69: the law does not read the counters. -/
theorem KeyStore.StoreLaw.counters {ks : KeyStore} (law : ks.StoreLaw) (r d : Nat) :
    ({ ks with replaced := r, displaced := d } : KeyStore).StoreLaw := law

theorem KeyStore.StoreLaw.emptySlot {ks : KeyStore} (law : ks.StoreLaw) : ({ ks with slot := none } : KeyStore).StoreLaw := by
  have free : ({ ks with slot := none } : KeyStore) = ks.put 0 none .slot := rfl
  rw [free, KeyStore.storeLaw_iff]
  rw [KeyStore.storeLaw_iff] at law
  obtain ⟨lawful, one⟩ := law
  have old : ∀ g place x, (ks.put 0 none .slot).at g place = some x → ks.at g place = some x := by
    intro g place x h
    rw [KeyStore.at_put] at h
    split at h
    · exact absurd h (by simp)
    · exact h
  exact ⟨fun g place x h => lawful g place x (old _ _ _ h),
    fun g p1 p2 x y hx hy => one g p1 p2 x y (old _ _ _ hx) (old _ _ _ hy)⟩

/-- R65: where a lookup finds a group. -/
theorem KeyStore.locate_some {ks : KeyStore} {g : Nat} {place : Place} (h : ks.locate g = some place) :
    ∃ x, ks.at g place = some x ∧ x.group = g := by
  have held : ∀ {o : Option KeyEntry}, holdsGroup o g = true → ∃ x, o = some x ∧ x.group = g := by
    intro o h
    simpa [holdsGroup, Option.any_eq_true] using h
  unfold KeyStore.locate at h
  dsimp only at h
  split_ifs at h with h0 h1 h2 <;> obtain rfl := Option.some.inj h
  · exact held h0
  · exact held h1
  · exact held h2

theorem KeyStore.locate_none {ks : KeyStore} {g : Nat} (h : ks.locate g = none) (place : Place) {x : KeyEntry}
    (there : ks.at g place = some x) : x.group ≠ g := by
  have free : ∀ {o : Option KeyEntry}, holdsGroup o g ≠ true → o = some x → x.group ≠ g := by
    rintro o h rfl
    simpa [holdsGroup] using h
  unfold KeyStore.locate at h
  dsimp only at h
  split_ifs at h with h0 h1 h2
  rcases place with (_ | _) | _
  · exact free h0 there
  · exact free h1 there
  · exact free h2 there

/-- R53: while a place holds a group no other does. -/
theorem KeyStore.StoreLaw.located {ks : KeyStore} (law : ks.StoreLaw) {g : Nat} {place : Place}
    (h : ks.locate g = some place) : ∀ place' y, place' ≠ place → ks.at g place' = some y → y.group ≠ g := by
  intro place' y ne there same
  obtain ⟨x, here, group⟩ := ks.locate_some h
  exact ne ((ks.storeLaw_iff.mp law).2 g place' place y x there here (same.trans group.symm))

theorem KeyEntry.setPhase_group (e : KeyEntry) (k : Option PhaseKey) (phase : KeyPhase) : (e.setPhase k phase).group = e.group := by
  cases phase <;> rfl

/-- R52: an entry with a phase just loaded is lawful. -/
theorem KeyEntry.setPhase_lawful {e : KeyEntry} (group : e.group ≤ 1022) (k : PhaseKey) (phase : KeyPhase) :
    (e.setPhase (some k) phase).lawful = true := by
  cases phase <;> simp [KeyEntry.lawful, KeyEntry.setPhase, group]

theorem KeyEntry.fresh_lawful {group : Nat} (held : group ≤ 1022) (phase : KeyPhase) (k : PhaseKey) :
    (KeyEntry.fresh group phase k).lawful = true ∧ (KeyEntry.fresh group phase k).group = group :=
  ⟨KeyEntry.setPhase_lawful held k phase, KeyEntry.setPhase_group _ _ _⟩

theorem KeyEntry.lawful_group {e : KeyEntry} (h : e.lawful = true) : e.group ≤ 1022 := by
  simp only [KeyEntry.lawful, Bool.and_eq_true, decide_eq_true_eq] at h
  exact h.1

/-- R54, R60, R61, R63: an entry placed in a way, while no place holds its group but that way. -/
theorem KeyStore.StoreLaw.placeInWay {ks : KeyStore} (law : ks.StoreLaw) {e : KeyEntry} (w : Way) (lawful : e.lawful = true)
    (free : ∀ place' y, place' ≠ .way w → ks.at e.group place' = some y → y.group ≠ e.group) :
    (ks.placeInWay e w).StoreLaw := by
  unfold KeyStore.placeInWay
  exact (law.put (.way w) (by rintro x ⟨⟩; exact ⟨lawful, rfl⟩) free).mark _ _

theorem State.placeKey_storeLaw {s : State} {group : Nat} (phase : KeyPhase) (k : PhaseKey) (held : group ≤ 1022)
    (law : s.ks.StoreLaw) : (s.placeKey group phase k).StoreLaw := by
  obtain ⟨lawful, own⟩ := KeyEntry.fresh_lawful held phase k
  unfold State.placeKey
  dsimp only
  split
  · next place found =>
    refine law.put place (fun x h => ?_) (law.located found)
    obtain ⟨y, hy, group⟩ := KeyStore.locate_some found
    rw [hy, Option.map_some, Option.some.injEq] at h
    rw [← h, KeyEntry.setPhase_group]
    exact ⟨KeyEntry.setPhase_lawful (by rw [group]; exact held) _ _, group⟩
  · next missed =>
    have free : ∀ place' y, s.ks.at (KeyEntry.fresh group phase k).group place' = some y →
        y.group ≠ (KeyEntry.fresh group phase k).group := by
      rw [own]
      exact fun place' y => KeyStore.locate_none missed place'
    split
    · exact law.placeInWay _ lawful fun place' y _ => free place' y
    · exact (law.placeInWay _ lawful fun place' y _ => free place' y).counters _ _
    · have slot : (s.ks.put group (some (KeyEntry.fresh group phase k)) .slot).StoreLaw :=
        law.put .slot (by rintro x ⟨⟩; exact ⟨lawful, own⟩) fun place' y _ => KeyStore.locate_none missed place'
      split
      · exact slot.counters _ _
      · exact slot

theorem State.migrate_storeLaw {s : State} (law : s.ks.StoreLaw) : s.migrate.ks.StoreLaw := by
  unfold State.migrate
  split
  · exact law
  · next e slot =>
    have moved : ∀ w, ({ s.ks.placeInWay e w with slot := none } : KeyStore).StoreLaw := by
      intro w
      refine KeyStore.StoreLaw.placeInWay (ks := { s.ks with slot := none }) law.emptySlot w (law.2.1 e slot) ?_
      intro place' y ne there same
      rcases place' with w' | _
      · exact absurd ((s.ks.storeLaw_iff.mp law).2 e.group (.way w') .slot y e there slot same) (by simp)
      · exact absurd there (by simp [KeyStore.at])
    dsimp only
    split
    · exact moved _
    · exact (moved _).counters _ _
    · exact law

theorem KeyStore.StoreLaw.purge {ks : KeyStore} (law : ks.StoreLaw) (g : Nat) : (ks.purge g).StoreLaw := by
  unfold KeyStore.purge
  split
  · exact law
  · next place found => exact law.put place (by simp) (law.located found)

/-- R55: what is left of a lawful entry is lawful or free. -/
theorem KeyEntry.orFree_lawful {e x : KeyEntry} (group : e.group ≤ 1022) (h : e.orFree = some x) :
    x.lawful = true ∧ x.group = e.group := by
  unfold KeyEntry.orFree at h
  split at h
  · exact absurd h (by simp)
  · next valid =>
    obtain rfl := Option.some.inj h
    refine ⟨?_, rfl⟩
    simp only [KeyEntry.lawful, Bool.and_eq_true, Bool.or_eq_true, decide_eq_true_eq]
    refine ⟨group, ?_⟩
    cases a : e.phaseA <;> cases b : e.phaseB <;> simp_all

theorem KeyStore.StoreLaw.dropPhase {ks : KeyStore} (law : ks.StoreLaw) (g : Nat) (phase : KeyPhase) :
    (ks.dropPhase g phase).StoreLaw := by
  unfold KeyStore.dropPhase
  split
  · exact law
  · next place found =>
    refine law.put place (fun x h => ?_) (law.located found)
    obtain ⟨y, hy, group⟩ := KeyStore.locate_some found
    rw [hy, Option.bind_some] at h
    have small := KeyEntry.lawful_group ((ks.storeLaw_iff.mp law).1 g place y hy).1
    obtain ⟨lawful, same⟩ := KeyEntry.orFree_lawful (e := y.setPhase none phase)
      (by rw [KeyEntry.setPhase_group]; exact small) h
    exact ⟨lawful, by rw [same, KeyEntry.setPhase_group]; exact group⟩

theorem KeyStore.clear_storeLaw (ks : KeyStore) : ks.clear.StoreLaw := by
  rw [KeyStore.storeLaw_iff]
  have empty : ∀ g place, ks.clear.at g place = none := by
    rintro g ((_ | _) | _) <;> simp [KeyStore.clear, KeyStore.at, KeySet.way, KeySet.empty]
  exact ⟨fun g place x h => absurd h (by simp [empty]), fun g p1 p2 x y hx => absurd hx (by simp [empty])⟩

@[simp] theorem State.closePurchase_pc (s : State) (e : Purchase) (time : Nat) : (s.closePurchase e time).pc = s.pc := by
  unfold State.closePurchase
  dsimp only
  split <;> rfl

@[simp] theorem State.closeAll_pc (s : State) : s.closeAll.pc = s.pc :=
  List.foldlRecOn (motive := fun t : State => t.pc = s.pc) _ _ rfl fun t ih e _ =>
    (State.closePurchase_pc t e s.su.clock).trans ih

theorem Act.keeps_storeLaw {s t : State} (h : Act s t) (law : s.ks.StoreLaw) : t.ks.StoreLaw := by
  cases h with
  | lookupMark g =>
    show (s.ks.lookupMark g).StoreLaw
    unfold KeyStore.lookupMark
    split
    · exact law.mark _ _
    · exact law
  | placeKey g phase k held => exact State.placeKey_storeLaw phase k held law
  | purge g => exact law.purge g
  | dropPhase g phase => exact law.dropPhase g phase
  | clearKeys => exact s.ks.clear_storeLaw
  | migrate => exact State.migrate_storeLaw law
  | handReturn r => rw [(s.handReturn_frame r).2.2.2.2.1]; exact law
  | endReturn => rw [s.endReturn_frame.2.2.2.2.1]; exact law
  | closeAll => rw [State.closeAll_ks]; exact law
  | close e time => rw [State.closePurchase_ks]; exact law
  | release n => obtain e | ⟨_, e⟩ := s.releaseTo_cases n <;> rw [e] <;> exact law
  | _ => exact law

/-! ## The tables and the burst (R22, R32, R36, R41) -/

/-- The law reads the two tables, the remap table and the burst. -/
theorem State.TableLaw.congr {s t : State} (law : s.TableLaw) (tm : t.tm = s.tm) (remap : t.sf.remap = s.sf.remap)
    (burst : t.md.burst = s.md.burst) : t.TableLaw := by
  simp only [State.TableLaw, State.entry, State.price, tm, remap, burst] at law ⊢
  exact law

theorem Vector.set_of_forall {α : Type} {n : Nat} {P : α → Prop} {v : Vector α n} (h : ∀ i : Fin n, P v[i]) (j : Fin n) {x : α}
    (hx : P x) (i : Fin n) : P (v.set j x)[i] := by
  rw [Fin.getElem_fin, Vector.getElem_set]
  split
  · exact hx
  · exact h i

theorem Act.keeps_tableLaw {s t : State} (h : Act s t) (law : s.TableLaw) : t.TableLaw := by
  have law' := law
  obtain ⟨services, prices, remaps, bursts⟩ := law'
  cases h with
  | remap i e lawful =>
    exact ⟨services, prices, Vector.set_of_forall (P := fun o => ∀ e ∈ o, RemapEntry.lawful e = true) remaps i lawful, bursts⟩
  | service c e lawful =>
    exact ⟨Vector.set_of_forall (P := fun o => ∀ e ∈ o, Service.lawful e = true) services c lawful, prices, remaps, bursts⟩
  | price k e lawful =>
    exact ⟨services, Vector.set_of_forall (P := fun o => ∀ e ∈ o, PriceEntry.lawful e = true) prices k lawful, remaps, bursts⟩
  | burst b lawful => exact ⟨services, prices, remaps, lawful bursts⟩
  | settings u => refine law.congr rfl rfl ?_; dsimp only; split <;> rfl
  | handReturn r => obtain ⟨_, _, md, sf, _, _, _, tm⟩ := s.handReturn_frame r; exact law.congr tm (by rw [sf]) (by rw [md])
  | endReturn => obtain ⟨_, _, md, sf, _, _, _, tm, _⟩ := s.endReturn_frame; exact law.congr tm (by rw [sf]) (by rw [md])
  | migrate => exact law.congr (by simp) (by simp) (by simp)
  | closeAll => exact law.congr s.closeAll_frame.tm (by rw [s.closeAll_frame.sf]) (by rw [s.closeAll_frame.md])
  | close e time =>
    have frame := s.closePurchase_due e time
    exact law.congr frame.tm (by rw [frame.sf]) (by rw [frame.md])
  | release n => obtain e | ⟨_, e⟩ := s.releaseTo_cases n <;> rw [e] <;> exact law
  | _ => exact law

/-! ## The Preview List (R96) and the timers (R90, R91, R93) -/

/-- R96: a list of 8 holds a record whose title none of the four ports is previewing. -/
theorem State.exists_unpreviewed {s : State} (nodup : (s.pc.previews.map (·.title)).Nodup)
    (full : previewMax ≤ s.pc.previews.length) : ∃ x ∈ s.pc.previews, (!s.isPreviewed x.title) = true := by
  by_contra all
  have shown : s.pc.previews.map (·.title) ⊆ allPorts.filterMap s.previewing := by
    intro title m
    obtain ⟨x, mx, rfl⟩ := List.mem_map.mp m
    have previewed : s.isPreviewed x.title = true := by
      by_contra other
      exact all ⟨x, mx, by simpa using other⟩
    obtain ⟨p, mp, h⟩ := List.any_eq_true.mp previewed
    exact List.mem_filterMap.mpr ⟨p, mp, by simpa using h⟩
  have few := (List.subperm_of_subset nodup shown).length_le.trans (List.length_filterMap_le _ _)
  rw [List.length_map] at few
  exact absurd (full.trans few) (by decide)

theorem State.joinPreview_previewLaw {s : State} (r : Preview) (fresh : s.previewRecord r.title = none) (law : s.PreviewLaw) :
    (s.joinPreview r).PreviewLaw := by
  obtain ⟨short, nodup⟩ := law
  have apart : ∀ l : List Preview, l.Sublist s.pc.previews → ((l ++ [r]).map (·.title)).Nodup := by
    intro l sub
    rw [List.map_append, List.nodup_append]
    refine ⟨(sub.map _).nodup nodup, List.nodup_singleton _, fun a ma b mb same => ?_⟩
    obtain ⟨x, mx, rfl⟩ := List.mem_map.mp ma
    obtain rfl := List.mem_singleton.mp mb
    have := List.find?_eq_none.mp fresh x (sub.subset mx)
    simp [same] at this
  unfold State.joinPreview
  dsimp only
  split
  · next full =>
    refine ⟨?_, apart _ List.eraseP_sublist⟩
    obtain ⟨x, mx, unseen⟩ := State.exists_unpreviewed nodup full
    have pos := List.length_pos_of_mem mx
    rw [List.length_append, List.length_eraseP_of_mem mx unseen, List.length_singleton]
    exact (Nat.sub_add_cancel pos).trans_le short
  · next room =>
    refine ⟨?_, apart _ (List.Sublist.refl _)⟩
    rw [List.length_append, List.length_singleton]
    exact Nat.lt_of_not_le room

theorem State.PreviewLaw.congr {s t : State} (law : s.PreviewLaw) (same : t.pc.previews = s.pc.previews) : t.PreviewLaw := by
  unfold State.PreviewLaw
  rw [same]
  exact law

theorem Act.keeps_previewLaw {s t : State} (h : Act s t) (law : s.PreviewLaw) : t.PreviewLaw := by
  cases h with
  | joinPreview r fresh => exact State.joinPreview_previewLaw r fresh law
  | previews f title =>
    obtain ⟨short, nodup⟩ := law
    refine ⟨by rw [List.length_map]; exact short, ?_⟩
    have same : (·.title) ∘ f = (·.title) := funext title
    rw [List.map_map, same]
    exact nodup
  | openStay u => exact ⟨Nat.zero_le _, List.nodup_nil⟩
  | endStay => exact ⟨Nat.zero_le _, List.nodup_nil⟩
  | handReturn r => exact law.congr (by rw [(s.handReturn_frame r).2.2.2.2.2.2.1])
  | endReturn => exact law.congr (by rw [s.endReturn_frame.2.2.2.2.2.2.1])
  | migrate => exact law.congr (by simp)
  | closeAll => exact law.congr (by simp)
  | close e time => exact law.congr (by simp)
  | release n => obtain e | ⟨_, e⟩ := s.releaseTo_cases n <;> rw [e] <;> exact law
  | _ => exact law

theorem State.TimerLaw.congr {s t : State} (law : s.TimerLaw) (same : t.pc = s.pc) : t.TimerLaw := by
  unfold State.TimerLaw State.port
  rw [same]
  exact law

theorem Act.keeps_timerLaw {s t : State} (h : Act s t) (law : s.TimerLaw) : t.TimerLaw := by
  cases h with
  | port p r timed =>
    intro q
    rw [State.setPort_port]
    split
    · exact timed (law p)
    · exact law q
  | allOff =>
    intro q
    simp [State.port, PortRecord.timed]
  | handReturn r => exact law.congr (by rw [(s.handReturn_frame r).2.2.2.2.2.2.1])
  | endReturn => exact law.congr (by rw [s.endReturn_frame.2.2.2.2.2.2.1])
  | migrate => exact law.congr (by simp)
  | closeAll => exact law.congr (by simp)
  | close e time => exact law.congr (by simp)
  | release n => obtain e | ⟨_, e⟩ := s.releaseTo_cases n <;> rw [e] <;> exact law
  | _ => exact law

end Sys2Proof.Machine
end

section
/-! The events that decide ports (R85 to R89), each in the words of Safety.lean: what `PortsDecided` reads of its states, and
that a run of decisions with its announcement and migration is one. -/

namespace Sys2Proof.Machine

/-! ## What the words read -/

/-- `Decided` reads the records of the ports with a target, the titles that the ports preview, and what a decision reads. -/
theorem Decided.congr {before s t before' s' t' : State} {target : Port → Option Channel}
    (old : ∀ p, target p ≠ none → before'.port p = before.port p) (decided : ∀ p, target p ≠ none → t'.port p = t.port p)
    (stay : ∀ p, target p = none → t'.port p = s'.port p) (waiting : ∀ p, s'.previewing p = s.previewing p)
    (taken : ∀ p, t'.previewing p = t.previewing p) (previews : t'.pc.previews = t.pc.previews) (su : t'.su = t.su)
    (sf : t'.sf = t.sf) (tm : t'.tm = t.tm) (lu : t'.lu = t.lu) (pu : t'.pu = t.pu) :
    ∀ (order : List Port) (l : List Preview), Decided before s t target order l → Decided before' s' t' target order l
  | [], l, h => previews.trans h
  | p :: rest, l, h => by
    have next := Decided.congr old decided stay waiting taken previews su sf tm lu pu rest
    unfold Decided at h ⊢
    split at h
    · next none => exact ⟨stay p none, next l h.2⟩
    · next c some =>
      have moved : target p ≠ none := by simp [some]
      obtain ⟨⟨d, decides, placed⟩, h⟩ := h
      have placed' : t'.placed (before'.port p) c d = t.placed (before.port p) c d := by
        rw [old p moved]
        cases d <;> simp only [State.placed, State.streamOf, State.entry, su, sf, tm]
      have list : listAfter s' t' rest p l = listAfter s t rest p l := by
        unfold listAfter
        simp only [waiting, taken]
      rw [list]
      exact ⟨⟨d, decides.congr su tm lu pu, by rw [decided p moved, placed', placed]⟩, next _ h⟩

/-- A port with no target stays. -/
theorem Decided.stays {before s t : State} {target : Port → Option Channel} {p : Port} (none : target p = none) :
    ∀ {order : List Port} {l : List Preview}, p ∈ order → Decided before s t target order l → t.port p = s.port p
  | q :: rest, l, m, h => by
    unfold Decided at h
    rcases List.mem_cons.mp m with rfl | m
    · rw [none] at h
      exact h.1
    · split at h
      · exact Decided.stays none m h.2
      · exact Decided.stays none m h.2

/-- A port with a target is decided for it. -/
theorem Decided.decides {before s t : State} {target : Port → Option Channel} {p : Port} {c : Channel}
    (some : target p = some c) : ∀ {order : List Port} {l : List Preview}, p ∈ order → Decided before s t target order l →
    ∃ l' d, t.Decides l' p c d ∧ t.port p = t.placed (before.port p) c d
  | q :: rest, l, m, h => by
    unfold Decided at h
    rcases List.mem_cons.mp m with rfl | m
    · rw [some] at h
      obtain ⟨⟨d, decides, placed⟩, -⟩ := h
      exact ⟨l, d, decides, placed⟩
    · split at h
      · exact Decided.decides some m h.2
      · exact Decided.decides some m h.2

/-- A port's units are made of its notices and of its blank record. -/
theorem announced_congr {before t before' t' : State} {p : Port} (old : before'.port p = before.port p)
    (alert : before'.su.alert = before.su.alert) (notice : t'.notice p = t.notice p)
    (port : t'.port p = t.port p ∨ (t'.port p).isActive = true ∧ (t.port p).isActive = true) :
    announced before' t' p = announced before t p := by
  simp only [announced, State.notice_congr old alert, notice, old]
  rcases port with port | ⟨active', active⟩
  · rw [port]
  · cases h' : t'.port p <;> simp_all [PortRecord.isActive]
    cases h : t.port p <;> simp_all

theorem Announced.congr {before t before' t' : State} {l made : List LinkUnit} (h : Announced before t l made)
    (old : ∀ p, before'.port p = before.port p) (alert : before'.su.alert = before.su.alert)
    (notice : ∀ p, t'.notice p = t.notice p)
    (port : ∀ p, t'.port p = t.port p ∨ (t'.port p).isActive = true ∧ (t.port p).isActive = true) :
    Announced before' t' l made := by
  obtain ⟨units, own, some, made⟩ := h
  exact ⟨units, fun p => by rw [own p, announced_congr (old p) alert (notice p) (port p)], some, made⟩

/-- R63: which groups are in use after the event is all that the migration reads of it. -/
theorem KeysMigrated.congr_after {s t t' : State} (h : KeysMigrated s t) (ks : t'.ks = t.ks)
    (used : ∀ p, t'.serviceGroup p = t.serviceGroup p) : KeysMigrated s t' := by
  unfold KeysMigrated at h ⊢
  simp only [ks, used]
  exact h

/-- `PortsDecided` reads of the state before the event its port records and its alert. -/
theorem PortsDecided.congr_before {before before' s t : State} {target : Port → Option Channel}
    (h : PortsDecided before s t target) (old : ∀ p, before'.port p = before.port p)
    (alert : before'.su.alert = before.su.alert) : PortsDecided before' s t target := by
  obtain ⟨outside, keys, ⟨order, all, decided⟩, made, announced, link⟩ := h
  exact ⟨outside, keys, ⟨order, all, decided.congr (fun p _ => old p) (fun _ _ => rfl)
    (fun p none => decided.stays none (all.mem_iff.mpr (mem_allPorts p))) (fun _ => rfl) (fun _ => rfl) rfl rfl rfl rfl rfl rfl
    order _⟩, made, announced.congr old alert (fun _ => rfl) (fun _ => .inl rfl), link⟩

/-- Targets that agree are the same targets. -/
theorem PortsDecided.congr_target {before s t : State} {target target' : Port → Option Channel}
    (h : PortsDecided before s t target) (same : ∀ p, target' p = target p) : PortsDecided before s t target' := by
  obtain rfl : target' = target := funext same
  exact h

/-! ## A run of decisions (R88, R89) -/

/-- What a run of decisions leaves alone. -/
theorem State.decideEach_ports (target : Port → Option Channel) (order : List Port) (s : State) :
    PortsFrame s (order.foldl (State.decideTarget target) s) :=
  PortsFrame.foldl (fun t p => t.decideTarget_ports target p) _ _

/-- R88, R89, R63: every port in some order, decided where it has a target, with the announcement and the migration that end
the event. -/
theorem State.decideEach_decided {before s first : State} {target : Port → Option Channel} {order : List Port}
    (all : order.Perm allPorts) (start : first = { s with choices := first.choices })
    (was : ∀ p, target p ≠ none → before.port p = s.port p) :
    PortsDecided before s ((order.foldl (State.decideTarget target) first).announce before).migrate target := by
  have ports := State.decideEach_ports target order first
  have frame := ports.trans (State.announce_ports _ before)
  have su : first.su = s.su := by rw [start]
  have fi : first.fi = s.fi := by rw [start]
  have sf : first.sf = s.sf := by rw [start]
  have md : first.md = s.md := by rw [start]
  have tm : first.tm = s.tm := by rw [start]
  have ks : first.ks = s.ks := by rw [start]
  have pc : first.pc = s.pc := by rw [start]
  have lu : first.lu = s.lu := by rw [start]
  have pu : first.pu = s.pu := by rw [start]
  have bq : first.bq = s.bq := by rw [start]
  have rl : first.rl = s.rl := by rw [start]
  have room : first.room = s.room := by rw [start]
  have pending : first.pending = s.pending := by rw [start]
  have port : ∀ p, first.port p = s.port p := fun p => by rw [State.port, State.port, pc]
  refine ⟨⟨?_, ?_, ?_, ?_, ?_, ?_, ?_, ?_, ?_, ?_⟩, (State.migrate_keys _).congr (frame.ks.trans ks),
    ⟨order, all, ?_⟩, ?_⟩
  · rw [State.migrate_su, frame.su, su]
  · rw [State.migrate_fi, frame.fi, fi]
  · rw [State.migrate_sf, frame.sf, sf]
  · rw [State.migrate_md, frame.md, md]
  · rw [State.migrate_tm, frame.tm, tm]
  · rw [State.migrate_lu, frame.lu, lu]
  · rw [State.migrate_pu, frame.pu, pu]
  · rw [State.migrate_bq, frame.bq, bq]
  · rw [State.migrate_room, frame.room, room]
  · rw [State.migrate_pending, frame.pending, pending]
  · rw [← pc]
    refine Decided.of_fold (before := before) (base := s) order first (all.nodup_iff.mpr (by decide))
      (fun q _ => (port q).symm) (fun q _ some => (was q some).trans (port q).symm) tm.symm ?_ ?_ ?_ ?_ ?_ ?_ ?_
    · rw [State.migrate_su, frame.su]
    · rw [State.migrate_sf, frame.sf]
    · rw [State.migrate_tm, frame.tm]
    · rw [State.migrate_lu, frame.lu]
    · rw [State.migrate_pu, frame.pu]
    · intro q
      simp only [State.port, State.migrate_pc, State.announce_pc]
    · rw [State.migrate_pc, State.announce_pc]
  · obtain ⟨made, announced, link⟩ := State.announce_rl (s := order.foldl (State.decideTarget target) first)
      (before := before) (t := ((order.foldl (State.decideTarget target) first).announce before).migrate)
      (fun p => by simp only [State.port, State.migrate_pc, State.announce_pc])
      (by rw [State.migrate_su, frame.su, ports.su])
    rw [State.decideEach_rl, rl] at announced link
    exact ⟨made, announced, by rw [State.migrate_rl]; exact link⟩

/-! ## The re-evaluations (R88) -/

theorem PortRecord.home_of_isOff {r : PortRecord} (h : r.isOff = true) : r.home = none := by
  cases r with
  | off => rfl
  | active => simp [PortRecord.isOff] at h
  | blanked => simp [PortRecord.isOff] at h

/-- R3, R4, R7: every port is decided for its home channel. -/
theorem State.reevaluateAll_decided {before s : State} (was : ∀ p, s.port p = before.port p) :
    PortsDecided before s (s.reevaluateAll before).migrate before.homes :=
  State.reevaluateWhere_decided (fun p => (was p).symm) fun p => by
    rw [State.homes, ← was p]
    split
    · rfl
    · next off => exact PortRecord.home_of_isOff (by simpa using off)

/-- R40, R88: the ports on a title are decided for their home channels. -/
theorem State.reevaluateTitle_decided {before s : State} (title : Nat) (was : ∀ p, s.port p = before.port p)
    (tm : s.tm = before.tm) : PortsDecided before s (s.reevaluateTitle before title).migrate (before.homesWith title) :=
  State.reevaluateWhere_decided (fun p => (was p).symm) fun p => by
    have titles : s.titleOn = before.titleOn := by
      funext c
      simp only [State.titleOn, State.entry, tm]
    simp only [State.homesWith, State.carries, was p, titles, beq_iff_eq]

/-- The ports with one of them first. -/
theorem cons_allPorts_perm (p : Port) : (p :: allPorts.filter (· != p)).Perm allPorts := by
  revert p
  decide

/-- R88: one port is decided for a channel. -/
theorem State.decideOne_eq {target : Port → Option Channel} {s : State} {p : Port} (none : ∀ q, q ≠ p → target q = none) :
    (p :: allPorts.filter (· != p)).foldl (State.decideTarget target) s = s.decideTarget target p := by
  rw [List.foldl_cons]
  exact decideEach_skip _ _ fun q m => none q (by simpa using (List.mem_filter.mp m).2)

/-- R108, R117: one port is re-evaluated. -/
theorem State.reevaluate_decided {before s : State} {p : Port} (was : s.port p = before.port p) :
    PortsDecided before s (s.reevaluate before p).migrate fun q => if q = p then (before.port p).home else none := by
  have decided := State.decideEach_decided (before := before) (s := s) (first := s)
    (target := fun q => if q = p then (before.port p).home else none) (cons_allPorts_perm p) rfl fun q some => by
      by_cases here : q = p
      · rw [here, was]
      · exact absurd (if_neg here) some
  rw [State.decideOne_eq fun q other => if_neg other] at decided
  have one : s.reevaluatePort p = s.decideTarget (fun q => if q = p then (before.port p).home else none) p := by
    rw [State.decideTarget, if_pos rfl, ← was]
    cases home : (s.port p).home with
    | none => simp [State.reevaluatePort, home]
    | some c => exact State.reevaluatePort_eq home
  rw [State.reevaluate, one]
  exact decided

/-- R86: one port is tuned to a channel that is PRESENT, or while an alert is active. -/
theorem State.tunePort_decided {s : State} {p : Port} {c : Channel} (present : s.tuneDecision p c ≠ .absent) :
    PortsDecided s s ((s.tunePort p c).announce s).migrate fun q => if q = p then some c else none := by
  have decided := State.decideEach_decided (before := s) (s := s) (first := s)
    (target := fun q => if q = p then some c else none) (cons_allPorts_perm p) rfl fun _ _ => rfl
  rw [State.decideOne_eq fun q other => if_neg other] at decided
  have one : s.tunePort p c = s.decideTarget (fun q => if q = p then some c else none) p := by
    rw [State.decideTarget, if_pos rfl, State.tunePort_eq p present]
  rw [one]
  exact decided

/-- The free choices play no part in a decision. -/
theorem State.startPreview_choices (s : State) (c : Channel) (k : Choices) :
    ({ s with choices := k } : State).startPreview c = { s.startPreview c with choices := k } := by
  have title : ({ s with choices := k } : State).titleOn c = s.titleOn c := rfl
  have record : ∀ x, ({ s with choices := k } : State).previewRecord x = s.previewRecord x := fun _ => rfl
  unfold State.startPreview
  rw [title]
  split
  · rfl
  · rw [record]
    split <;> rfl

theorem State.placeActive_choices (s : State) (p : Port) (v : View) (c : Channel) (k : Choices) :
    ({ s with choices := k } : State).placeActive p v c = { s.placeActive p v c with choices := k } := by
  unfold State.placeActive
  dsimp only
  split
  · exact State.startPreview_choices (s.setPort p (s.activeRecord p v c)) c k
  · rfl

theorem State.decideTarget_choices (target : Port → Option Channel) (s : State) (p : Port) (k : Choices) :
    ({ s with choices := k } : State).decideTarget target p = { s.decideTarget target p with choices := k } := by
  have decision : ∀ c, ({ s with choices := k } : State).tuneDecision p c = s.tuneDecision p c := fun _ => rfl
  unfold State.decideTarget
  split
  · rfl
  · next c _ =>
    rw [decision]
    cases s.tuneDecision p c with
    | absent => rfl
    | blank r => rfl
    | alert => exact s.placeActive_choices p .alert c k
    | playing => exact s.placeActive_choices p .playing c k
    | preview => exact s.placeActive_choices p .preview c k

/-- R130, step 6: the named port is tuned and every other port on the title is decided for its home channel. -/
theorem State.playTitle_decided {s before : State} {p : Port} {c : Channel} {title : Nat}
    (was : ∀ q, s.port q = before.port q) (tm : s.tm = before.tm) (present : s.tuneDecision p c ≠ .absent) :
    PortsDecided before s (s.playTitle before p c title) fun q => if q = p then some c else before.homesWith title q := by
  let target : Port → Option Channel := fun q => if q = p then some c else before.homesWith title q
  let t := s.tunePort p c
  let test : Port → Bool := fun q => q != p && t.carries q title
  have tuned : t = s.decideTarget target p := by
    simp only [t, target, State.decideTarget, if_true, State.tunePort_eq p present]
  have titles : t.titleOn = before.titleOn := by
    funext x
    simp only [State.titleOn, State.entry]
    rw [(s.tunePort_ports p c).tm, tm]
  have port : ∀ q, q ≠ p → t.port q = before.port q := fun q other => by
    rw [tuned, State.decideTarget_other other, was]
  have targets : ∀ q, q ≠ p → target q = if test q = true then (t.port q).home else none := by
    intro q other
    simp only [target, test, if_neg other, State.homesWith, State.carries, port q other, titles, Bool.and_eq_true, bne_iff_ne,
      ne_eq, other, not_false_eq_true, true_and, beq_iff_eq]
  have mem : ∀ q ∈ t.arranged test, q ≠ p ∧ test q = true := by
    intro q m
    have passes := (t.mem_arranged test q).mp m
    exact ⟨by simpa using (Bool.and_eq_true_iff.mp passes).1, passes⟩
  let waiting := allPorts.filter fun q => q != p && !test q
  let order := p :: (t.arranged test ++ waiting)
  have all : order.Perm allPorts := by
    have others : (t.arranged test ++ waiting).Perm (allPorts.filter (· != p)) := by
      have arranged : (t.arranged test).Perm ((allPorts.filter (· != p)).filter test) := by
        rw [List.filter_filter]
        refine (t.arranged_perm test).trans (List.Perm.of_eq (List.filter_congr fun q _ => ?_))
        simp only [test]
        cases q != p <;> simp
      have rest : waiting = (allPorts.filter (· != p)).filter fun q => !test q := by
        rw [List.filter_filter]
        exact List.filter_congr fun q _ => Bool.and_comm _ _
      rw [rest]
      exact (arranged.append_right _).trans (List.filter_append_perm test _)
    exact (others.cons p).trans (cons_allPorts_perm p)
  have run : t.reevaluateEach test = order.foldl (State.decideTarget target)
      { s with choices := (t.afterArranging test).choices } := by
    have first : ({ s with choices := (t.afterArranging test).choices } : State).decideTarget target p =
        t.afterArranging test := by
      rw [State.decideTarget_choices, ← tuned]
      rfl
    rw [List.foldl_cons, first, List.foldl_append, decideEach_skip waiting _ fun q m => ?_]
    · refine reevaluateEach_eq (test := test) _ _ (t.arranged_nodup test) (fun q m => (mem q m).2) fun q m => ?_
      rw [targets q (mem q m).1, if_pos (mem q m).2]
      rfl
    · have := (List.mem_filter.mp m).2
      simp only [Bool.and_eq_true, bne_iff_ne, Bool.not_eq_true', ne_eq] at this
      rw [targets q this.1, if_neg (by simp [this.2])]
  unfold State.playTitle
  show PortsDecided before s ((t.reevaluateEach test).announce before).migrate target
  rw [run]
  exact State.decideEach_decided all rfl fun q _ => (was q).symm

end Sys2Proof.Machine
end

section
/-! What an event that decides ports gives: R88's laws, the streams of R23, and R63's law of the arrival slot. -/

namespace Sys2Proof.Machine

/-! ## The outcome of a decision (R83, R84, R88) -/

/-- R84: the cases of a FILM channel leave no other outcome. -/
theorem filmDecision_unique {s : State} {title : Nat} {k : PriceCode} {d : Decision}
    (playing : s.purchase title ≠ none → d = .playing)
    (closed : s.purchase title = none →
      (((s.previewRecord title).map (·.seconds)).getD 0 < ((s.price k).map (·.preview)).getD 0 → d = .preview) ∧
      (((s.price k).map (·.preview)).getD 0 ≤ ((s.previewRecord title).map (·.seconds)).getD 0 →
        0 < ((s.price k).map (·.preview)).getD 0 → (∃ r, s.previewRecord title = some r ∧ r.bought = false) →
        d = .blank .previewOver) ∧
      (((s.price k).map (·.preview)).getD 0 ≤ ((s.previewRecord title).map (·.seconds)).getD 0 →
        (((s.price k).map (·.preview)).getD 0 = 0 ∨ ∀ r, s.previewRecord title = some r → r.bought = true) →
        d = .blank .notPurchased)) : d = s.filmDecision title k := by
  obtain ⟨playing', closed'⟩ := s.filmDecision_cases title k
  by_cases held : s.purchase title = none
  · obtain ⟨preview, spent, bare⟩ := closed held
    obtain ⟨preview', spent', bare'⟩ := closed' held
    rcases Nat.lt_or_ge (((s.previewRecord title).map (·.seconds)).getD 0) (((s.price k).map (·.preview)).getD 0) with
      below | reached
    · rw [preview below, preview' below]
    · by_cases bought : ((s.price k).map (·.preview)).getD 0 = 0 ∨ ∀ r, s.previewRecord title = some r → r.bought = true
      · rw [bare reached bought, bare' reached bought]
      · push Not at bought
        obtain ⟨length, r, found, clear⟩ := bought
        have clear' : ∃ r, s.previewRecord title = some r ∧ r.bought = false := ⟨r, found, by simpa using clear⟩
        rw [spent reached (Nat.pos_of_ne_zero length) clear', spent' reached (Nat.pos_of_ne_zero length) clear']
  · rw [playing held, playing' held]

/-- R83: the outcome that the checks give is the model's decision, under the Preview List that they read. -/
theorem State.Decides.eq_tuneDecision {s : State} {l : List Preview} {p : Port} {c : Channel} {d : Decision}
    (h : s.Decides l p c d) : d = ({ s with pc := { s.pc with previews := l } } : State).tuneDecision p c := by
  let t : State := { s with pc := { s.pc with previews := l } }
  show d = t.tuneDecision p c
  have h : t.Decides t.pc.previews p c d := h
  unfold State.Decides at h
  unfold State.tuneDecision
  cases alert : t.su.alert with
  | some a => simpa [alert] using h
  | none =>
    cases entry : t.entry c with
    | none => simpa [alert, entry] using h
    | some e =>
      simp only [alert, entry, ← inWindow_iff, ← t.vacancy_iff c e.tier, ← t.effectiveCeiling_eq p] at h
      obtain ⟨shut, locked, opened⟩ := h
      simp only [Option.isSome_none, Bool.false_eq_true, if_false]
      split
      · next vacant => exact shut vacant
      · next vacant =>
        split
        · next above => exact locked vacant above
        · next within =>
          have opened := opened vacant (Nat.not_lt.mp within)
          cases tier : e.tier with
          | house =>
            rw [tier] at opened
            exact opened
          | free =>
            rw [tier] at opened
            exact opened
          | package n =>
            rw [tier] at opened
            exact opened
          | film title k =>
            simp only [tier] at opened
            exact filmDecision_unique opened.1 opened.2

/-- R83: while an alert is active ALERT is decided, and only then. -/
theorem State.tuneDecision_alert_iff (s : State) (p : Port) (c : Channel) :
    s.tuneDecision p c = .alert ↔ s.su.alert.isSome = true := by
  have film : ∀ title k, s.filmDecision title k ≠ .alert := by
    intro title k
    unfold State.filmDecision
    dsimp only
    split_ifs <;> simp
  have tier : ∀ t, s.tierDecision t ≠ .alert := by
    intro t
    cases t with
    | house => simp [State.tierDecision]
    | free => simp [State.tierDecision]
    | package n => simp only [State.tierDecision]; split <;> simp
    | film title k => exact film title k
  unfold State.tuneDecision
  split
  · next h => simp [h]
  · next h =>
    split
    · simp [h]
    · split_ifs <;> simp [h, tier]

/-- R88, R97: what a decision that shows a service has found. -/
theorem State.tuneDecision_shows {s : State} {p : Port} {c : Channel}
    (h : s.tuneDecision p c = .playing ∨ s.tuneDecision p c = .preview) :
    s.su.alert.isNone = true ∧ ∃ e, s.entry c = some e ∧ e.rating ≤ s.effectiveCeiling p ∧
      (s.isOccupied = true ∨ s.vacancyBlocks c e.tier = false) ∧ s.tuneDecision p c = s.tierDecision e.tier := by
  unfold State.tuneDecision at h ⊢
  split at h
  · simp at h
  · next alert =>
    rw [if_neg alert]
    split at h
    · simp at h
    · next e entry =>
      rw [entry]
      split at h
      · simp at h
      · next vacant =>
        split at h
        · simp at h
        · next within =>
          refine ⟨by simpa using alert, e, rfl, Nat.not_lt.mp within, ?_, ?_⟩
          · simpa [Bool.and_eq_true, or_iff_not_imp_left] using vacant
          · rw [if_neg vacant, if_neg within]

/-- R88, R125: what is decided PLAYING may play. -/
theorem State.tuneDecision_playing {s : State} {p : Port} {c : Channel} (h : s.tuneDecision p c = .playing) :
    s.su.alert.isNone = true ∧ s.showable p c (s.mayPlay c) = true := by
  obtain ⟨alert, e, entry, rating, opened, decision⟩ := State.tuneDecision_shows (.inl h)
  rw [h] at decision
  refine ⟨alert, ?_⟩
  simp only [State.showable, entry, Option.any_some, Bool.and_eq_true, decide_eq_true_eq]
  refine ⟨rating, ?_⟩
  cases tier : e.tier with
  | house => rfl
  | free => simpa [State.mayPlay, State.vacancyBlocks, tier] using opened
  | package n =>
    simp only [tier, State.tierDecision] at decision
    split at decision
    · next held => simpa [State.mayPlay, State.vacancyBlocks, tier, held] using opened
    · simp at decision
  | film title k =>
    simp only [tier, State.tierDecision, State.filmDecision] at decision
    split_ifs at decision with held
    simpa [State.mayPlay, State.vacancyBlocks, tier, held] using opened

/-- R97: what is decided PREVIEW is a film that no purchase holds, in an OCCUPIED room. -/
theorem State.tuneDecision_preview {s : State} {p : Port} {c : Channel} (h : s.tuneDecision p c = .preview) :
    s.su.alert.isNone = true ∧ ∃ e title k, s.entry c = some e ∧ e.rating ≤ s.effectiveCeiling p ∧ e.tier = .film title k ∧
      s.isOccupied = true ∧ s.purchase title = none := by
  obtain ⟨alert, e, entry, rating, opened, decision⟩ := State.tuneDecision_shows (.inr h)
  rw [h] at decision
  cases tier : e.tier with
  | house => simp [tier, State.tierDecision] at decision
  | free => simp [tier, State.tierDecision] at decision
  | package n =>
    simp only [tier, State.tierDecision] at decision
    split at decision <;> simp at decision
  | film title k =>
    simp only [tier, State.tierDecision, State.filmDecision] at decision
    split_ifs at decision with held
    exact ⟨alert, e, title, k, entry, rating, tier, by simpa [State.vacancyBlocks, tier] using opened, by simpa using held⟩

/-! ## The records of the titles being previewed (R85, R96) -/

theorem mem_joinedList {previewed : Nat → Bool} {l : List Preview} {r x : Preview} (m : x ∈ l)
    (shown : previewed x.title = true) : x ∈ joinedList previewed l r := by
  unfold joinedList
  split
  · exact List.mem_append_left _ m
  · exact List.mem_append_left _ ((List.mem_eraseP_of_neg (by simp [shown])).mpr m)

theorem any_title {l : List Preview} {title : Nat} : l.any (·.title == title) = true ↔ ∃ x ∈ l, x.title = title := by
  simp [List.any_eq_true]

/-- R96: a record whose title is being previewed stays when another joins, and a previewed title finds its record. -/
theorem listAfter_keeps {s t : State} {rest : List Port} {p q : Port} {l : List Preview} {title : Nat}
    (shown : (if rest.contains q then s.previewing q else t.previewing q) = some title)
    (had : l.any (·.title == title) = true) : (listAfter s t rest p l).any (·.title == title) = true := by
  unfold listAfter
  split
  · exact had
  · split
    · exact had
    · obtain ⟨x, m, own⟩ := any_title.mp had
      refine any_title.mpr ⟨x, mem_joinedList m ?_, own⟩
      exact List.any_eq_true.mpr ⟨q, mem_allPorts q, by rw [own, shown]; exact beq_self_eq_true _⟩

theorem listAfter_starts {s t : State} {rest : List Port} {p : Port} {l : List Preview} {title : Nat}
    (shown : t.previewing p = some title) : (listAfter s t rest p l).any (·.title == title) = true := by
  unfold listAfter
  rw [shown]
  dsimp only
  split
  · next had => exact had
  · exact any_title.mpr ⟨_, List.mem_append_right _ (List.mem_singleton.mpr rfl), rfl⟩

/-- R85, R96: at the end every title being previewed has its record, where those of the ports that stay had theirs. -/
theorem Decided.recorded {before s t : State} {target : Port → Option Channel} (tm : t.tm = s.tm) :
    ∀ (order : List Port) (l : List Preview), order.Nodup → Decided before s t target order l →
      (∀ q title, (q ∈ order → target q = none) → t.previewing q = some title → l.any (·.title == title) = true) →
      ∀ q title, t.previewing q = some title → t.pc.previews.any (·.title == title) = true
  | [], l, _, h, had => fun q title shown => by
    have list : t.pc.previews = l := h
    rw [list]
    exact had q title (by simp) shown
  | p :: rest, l, nodup, h, had => by
    obtain ⟨fresh, nodup'⟩ := List.nodup_cons.mp nodup
    unfold Decided at h
    split at h
    · next none =>
      refine Decided.recorded tm rest l nodup' h.2 fun q title waits shown => had q title (fun m => ?_) shown
      rcases List.mem_cons.mp m with rfl | m
      · exact none
      · exact waits m
    · next c some =>
      refine Decided.recorded tm rest _ nodup' h.2 fun q title waits shown => ?_
      by_cases here : q = p
      · rw [here] at shown
        exact listAfter_starts shown
      · have had' : l.any (·.title == title) = true := had q title (fun m => waits ((List.mem_cons.mp m).resolve_left here)) shown
        refine listAfter_keeps (q := q) ?_ had'
        by_cases m : q ∈ rest
        · rw [if_pos (by simpa using m), ← State.previewing_congr (Decided.stays (waits m) m h.2) tm]
          exact shown
        · rw [if_neg (by simpa using m)]
          exact shown

/-! ## R88's laws after an event -/

theorem State.previewRecord_isSome (s : State) (title : Nat) :
    (s.previewRecord title).isSome = s.pc.previews.any (·.title == title) := by
  rw [Bool.eq_iff_iff, State.previewRecord, List.find?_isSome, List.any_eq_true]

/-- R97: a port that may preview what it shows has its title's record. -/
theorem State.recorded_of_lawful {s : State} {p : Port} {title : Nat} (law : s.portLawful p = true)
    (shown : s.previewing p = some title) : s.pc.previews.any (·.title == title) = true := by
  unfold State.previewing at shown
  split at shown
  · next home stream d n port =>
    simp only [State.portLawful, port, State.showable, Bool.and_eq_true, Option.any_eq_true] at law
    obtain ⟨-, e, entry, -, may⟩ := law
    simp only [State.titleOn, entry, Option.bind_some] at shown
    cases tier : e.tier with
    | film t k =>
      simp only [tier, Tier.title, Option.some.injEq] at shown
      simp only [State.mayPreview, tier, Bool.and_eq_true, State.previewRecord_isSome] at may
      rw [← shown]
      exact may.2
    | house => simp [State.mayPreview, tier] at may
    | free => simp [State.mayPreview, tier] at may
    | package n => simp [State.mayPreview, tier] at may
  · simp at shown

/-- What `portLawful` reads beside the port's record and the Preview List. -/
structure SameRules (p : Port) (s t : State) : Prop where
  alert     : t.su.alert.isSome = s.su.alert.isSome
  occupied  : t.isOccupied = s.isOccupied
  first     : t.su.vacantFirst = s.su.vacantFirst
  last      : t.su.vacantLast = s.su.vacantLast
  packages  : t.su.packages = s.su.packages
  ceiling   : t.effectiveCeiling p = s.effectiveCeiling p

/-- R82: the records show the same: the same view of the same home channel. -/
def PortRecord.shows : PortRecord → PortRecord → Prop
  | .off, .off => True
  | .active v home _ _ _, .active v' home' _ _ _ => v = v' ∧ home = home'
  | .blanked _ _ _, .blanked _ _ _ => True
  | _, _ => False

theorem PortRecord.shows_self (r : PortRecord) : r.shows r := by
  cases r <;> simp [PortRecord.shows]

/-- R88: a port keeps its law while it shows the same under the same rules, its service and its title's purchase stay, and
the title that it previews keeps its record. -/
theorem State.portLawful_of_shows {s t : State} {p : Port} (law : s.portLawful p = true) (shows : (s.port p).shows (t.port p))
    (rules : SameRules p s t) (entry : ∀ c, (s.port p).home = some c → (s.port p).isAlert = false → t.entry c = s.entry c)
    (bought : ∀ c title, (s.port p).home = some c → s.titleOn c = some title →
      (t.purchase title).isSome = (s.purchase title).isSome)
    (record : ∀ title, s.previewing p = some title → s.pc.previews.any (·.title == title) = true →
      t.pc.previews.any (·.title == title) = true) : t.portLawful p = true := by
  have noAlert : t.su.alert.isNone = s.su.alert.isNone := by
    rw [← Option.not_isSome, ← Option.not_isSome, rules.alert]
  cases old : s.port p with
  | off =>
    cases new : t.port p <;> simp only [old, new, PortRecord.shows] at shows
    simp [State.portLawful, new]
  | blanked r c n =>
    cases new : t.port p <;> simp only [old, new, PortRecord.shows] at shows
    simpa only [State.portLawful, old, new, noAlert] using law
  | active v home stream d n =>
    cases new : t.port p with
    | off => simp only [old, new, PortRecord.shows] at shows
    | blanked => simp only [old, new, PortRecord.shows] at shows
    | active v' home' stream' d' n' =>
      simp only [old, new, PortRecord.shows] at shows
      obtain ⟨rfl, rfl⟩ := shows
      cases v with
      | alert => simpa only [State.portLawful, old, new, rules.alert] using law
      | playing =>
        have entry' := entry home (by rw [old]; rfl) (by rw [old]; rfl)
        simp only [State.portLawful, old, new, noAlert, State.showable, entry', rules.ceiling, Bool.and_eq_true,
          Option.any_eq_true, decide_eq_true_eq] at law ⊢
        obtain ⟨none, e, found, rating, may⟩ := law
        refine ⟨none, e, found, rating, ?_⟩
        cases tier : e.tier with
        | house => rfl
        | free => simpa only [State.mayPlay, tier, rules.occupied, rules.first, rules.last] using may
        | package k => simpa only [State.mayPlay, tier, rules.occupied, rules.packages] using may
        | film title k =>
          have own : s.titleOn home = some title := by simp [State.titleOn, found, tier, Tier.title]
          simpa only [State.mayPlay, tier, rules.occupied, bought home title (by rw [old]; rfl) own] using may
      | preview =>
        have entry' := entry home (by rw [old]; rfl) (by rw [old]; rfl)
        have law' := law
        simp only [State.portLawful, old, new, noAlert, State.showable, entry', rules.ceiling, Bool.and_eq_true,
          Option.any_eq_true, decide_eq_true_eq] at law ⊢
        obtain ⟨none, e, found, rating, may⟩ := law
        refine ⟨none, e, found, rating, ?_⟩
        cases tier : e.tier with
        | house => simp [State.mayPreview, tier] at may
        | free => simp [State.mayPreview, tier] at may
        | package k => simp [State.mayPreview, tier] at may
        | film title k =>
          have own : s.titleOn home = some title := by simp [State.titleOn, found, tier, Tier.title]
          have shown : s.previewing p = some title := by simp [State.previewing, old, own]
          have some := bought home title (by rw [old]; rfl) own
          simp only [State.mayPreview, tier, rules.occupied, Bool.and_eq_true, State.previewRecord_isSome] at may ⊢
          refine ⟨⟨may.1.1, ?_⟩, record title shown may.2⟩
          rw [← Option.not_isSome, some, Option.not_isSome]
          exact may.1.2

/-- R88: an event that decides ports leaves the laws, where the ports that stay keep theirs. -/
theorem PortsDecided.portLaw {before s t : State} {target : Port → Option Channel} (h : PortsDecided before s t target)
    (stay : ∀ p, target p = none → s.portLawful p = true) : t.PortLaw := by
  obtain ⟨⟨su, -, -, -, tm, lu, pu, -, -, -⟩, -, ⟨order, all, decided⟩, -⟩ := h
  have mem : ∀ p, p ∈ order := fun p => all.mem_iff.mpr (mem_allPorts p)
  have nodup : order.Nodup := all.nodup_iff.mpr (by decide)
  have recorded := Decided.recorded tm order _ nodup decided fun q title waits shown => by
    have none := waits (mem q)
    rw [State.previewing_congr (decided.stays none (mem q)) tm] at shown
    exact State.recorded_of_lawful (stay q none) shown
  have rules : ∀ p, SameRules p s t := fun p =>
    ⟨by rw [su], by simp only [State.isOccupied, su], by rw [su], by rw [su], by rw [su],
      by simp only [State.effectiveCeiling, lu]⟩
  have purchases : ∀ title, t.purchase title = s.purchase title := fun title => by simp only [State.purchase, pu]
  have entries : ∀ c, t.entry c = s.entry c := fun c => by simp only [State.entry, tm]
  intro p
  cases moved : target p with
  | none =>
    have port := decided.stays moved (mem p)
    refine State.portLawful_of_shows (stay p moved) (by rw [port]; exact PortRecord.shows_self _) (rules p)
      (fun c _ _ => entries c) (fun _ title _ _ => by rw [purchases]) fun title shown _ => recorded p title ?_
    rw [State.previewing_congr port tm]
    exact shown
  | some c =>
    obtain ⟨l, d, decides, placed⟩ := decided.decides moved (mem p)
    let u : State := { t with pc := { t.pc with previews := l } }
    have decision : d = u.tuneDecision p c := decides.eq_tuneDecision
    have blank : ∀ r, u.tuneDecision p c ≠ .alert → t.port p = blankedFrom (before.port p) r c → t.portLawful p = true := by
      intro r other port
      obtain ⟨n, blanked⟩ := blankedFrom_blanked (before.port p) r c
      have alert : u.su.alert.isSome ≠ true := fun some => other ((u.tuneDecision_alert_iff p c).mpr some)
      simp only [State.portLawful, port, blanked]
      simpa using alert
    cases d with
    | alert =>
      have some : t.su.alert.isSome = true := (u.tuneDecision_alert_iff p c).mp decision.symm
      have record : ∃ stream dl n, t.port p = .active .alert c stream dl n := by
        rw [placed]
        simp only [State.placed]
        split <;> exact ⟨_, _, _, rfl⟩
      obtain ⟨stream, dl, n, port⟩ := record
      simpa only [State.portLawful, port] using some
    | absent => exact blank .notEntitled (by rw [← decision]; simp) placed
    | blank r => exact blank r (by rw [← decision]; simp) placed
    | playing =>
      obtain ⟨none, shows⟩ := State.tuneDecision_playing decision.symm
      simp only [State.portLawful, placed, State.placed, Bool.and_eq_true]
      exact ⟨none, shows⟩
    | preview =>
      obtain ⟨none, e, title, k, entry, rating, tier, occupied, free⟩ := State.tuneDecision_preview decision.symm
      have shown : t.previewing p = some title := by
        have entry' : t.entry c = some e := entry
        simp [State.previewing, placed, State.placed, State.titleOn, entry', tier, Tier.title]
      have record := recorded p title shown
      simp only [State.portLawful, placed, State.placed, Bool.and_eq_true, State.showable, Option.any_eq_true,
        decide_eq_true_eq]
      refine ⟨none, e, entry, rating, ?_⟩
      have occupied' : t.isOccupied = true := occupied
      have free' : t.purchase title = Option.none := free
      simp only [State.mayPreview, tier, occupied', free', State.previewRecord_isSome, record, Option.isNone_none, Bool.and_self]

/-! ## Streams (R23, R82) -/

/-- R23: the resolved stream of a view, in the words of Safety.lean. -/
theorem State.resolve_eq (s : State) (v : View) (c : Channel) :
    s.resolve v c = if v = .alert then s.su.alert.bind fun a => s.streamOf a.channel else s.streamOf c := by
  cases v with
  | alert =>
    simp only [State.resolve, State.serviceOf, State.serviceChannel, State.streamOf]
    cases s.su.alert <;> simp
  | playing => rfl
  | preview => rfl

theorem State.resolve_congr {s t : State} (alert : t.su.alert.map (·.channel) = s.su.alert.map (·.channel))
    (tm : t.tm = s.tm) (remap : t.sf.remap = s.sf.remap) (v : View) (c : Channel) : t.resolve v c = s.resolve v c := by
  have entry : t.entry = s.entry := by funext x; simp only [State.entry, tm]
  cases v <;> simp only [State.resolve, State.serviceOf, State.serviceChannel, alert, entry, remap]

/-- R23: a port's stream is true after an event that decides ports, where that of a port that stays was, and where a port in
ALERT that is decided had the stream of its service. -/
theorem PortsDecided.streamTrue {before s t : State} {target : Port → Option Channel} (h : PortsDecided before s t target)
    {p : Port} (stay : target p = none → s.streamTrue p = true)
    (alerted : ∀ home stream d n, target p ≠ none → before.port p = .active .alert home stream d n → s.su.alert ≠ none →
      stream = s.resolve .alert home) : t.streamTrue p = true := by
  obtain ⟨⟨su, -, sf, -, tm, -⟩, -, ⟨order, all, decided⟩, -⟩ := h
  have mem : p ∈ order := all.mem_iff.mpr (mem_allPorts p)
  have resolve : ∀ v c, t.resolve v c = s.resolve v c := State.resolve_congr (by rw [su]) tm (by rw [sf])
  cases moved : target p with
  | none =>
    have stay := stay moved
    unfold State.streamTrue at stay ⊢
    rw [decided.stays moved mem]
    simp only [resolve]
    exact stay
  | some c =>
    obtain ⟨l, d, decides, placed⟩ := decided.decides moved mem
    have blank : ∀ r, t.port p = blankedFrom (before.port p) r c → t.streamTrue p = true := by
      intro r port
      obtain ⟨n, blanked⟩ := blankedFrom_blanked (before.port p) r c
      simp [State.streamTrue, port, blanked]
    cases d with
    | alert =>
      have some : s.su.alert ≠ none := by
        have := (State.tuneDecision_alert_iff _ p c).mp decides.eq_tuneDecision.symm
        rw [← su]
        exact Option.isSome_iff_ne_none.mp this
      have fresh : ∀ dl n, t.port p = .active .alert c (t.su.alert.bind fun a => t.streamOf a.channel) dl n →
          t.streamTrue p = true := by
        intro dl n port
        simp [State.streamTrue, port, State.resolve_eq]
      cases old : before.port p with
      | off => exact fresh _ _ (by rw [old] at placed; exact placed)
      | blanked r home n => exact fresh _ _ (by rw [old] at placed; exact placed)
      | active v home stream dl n =>
        cases v with
        | playing => exact fresh _ _ (by rw [old] at placed; exact placed)
        | preview => exact fresh _ _ (by rw [old] at placed; exact placed)
        | alert =>
          have own := alerted home stream dl n (by simp [moved]) old some
          have channel : ∀ x, s.resolve .alert x = s.resolve .alert home := fun x => by simp [State.resolve_eq]
          simp [State.streamTrue, placed, State.placed, old, own, resolve, channel c]
    | absent => exact blank .notEntitled placed
    | blank r => exact blank r placed
    | playing => simp [State.streamTrue, placed, State.placed, State.resolve_eq]
    | preview => simp [State.streamTrue, placed, State.placed, State.resolve_eq]

/-! ## The arrival slot (R63) -/

/-- R63: after a migration the slot is empty, or both ways of its set are in use. -/
theorem KeysMigrated.slotLaw {s t : State} (h : KeysMigrated s t) : t.SlotLaw := by
  obtain ⟨empty, full⟩ := h
  intro e slot
  have slot : t.ks.slot = some e := slot
  cases old : s.ks.slot with
  | none =>
    rw [empty old, old] at slot
    exact absurd slot (by simp)
  | some e' =>
    obtain ⟨free0, free1, both⟩ := full e' old
    cases way0 : s.ks.sets[Fin.ofNat 32 e'.group].way0 with
    | none => rw [free0 way0] at slot; exact absurd slot (by simp)
    | some e0 =>
      cases way1 : s.ks.sets[Fin.ofNat 32 e'.group].way1 with
      | none => rw [free1 (fun none => by rw [none] at way0; cases way0) way1] at slot; exact absurd slot (by simp)
      | some e1 =>
        obtain ⟨first, second, kept⟩ := both e0 e1 way0 way1
        by_cases use0 : ∃ p : Port, t.serviceGroup p = some e0.group
        · by_cases use1 : ∃ p : Port, t.serviceGroup p = some e1.group
          · have ks := kept use0 use1
            rw [ks, old] at slot
            obtain rfl := Option.some.inj slot
            have way0 : s.ks.sets[setOf e'.group].way0 = some e0 := way0
            have way1 : s.ks.sets[setOf e'.group].way1 = some e1 := way1
            simp only [State.wayPinned, ks, way0, way1, Option.any_some, State.pinned_iff]
            exact ⟨use0, use1⟩
          · rw [second use1 (.inl use0)] at slot; exact absurd slot (by simp)
        · by_cases use1 : ∃ p : Port, t.serviceGroup p = some e1.group
          · rw [first use0 (.inl use1)] at slot; exact absurd slot (by simp)
          · cases recent : s.ks.sets[Fin.ofNat 32 e'.group].recent with
            | way0 => rw [second use1 (.inr recent)] at slot; exact absurd slot (by simp)
            | way1 => rw [first use0 (.inr recent)] at slot; exact absurd slot (by simp)

theorem State.migrate_slotLaw (s : State) : s.migrate.SlotLaw := s.migrate_keys.slotLaw

end Sys2Proof.Machine
end

section
/-! The events that move ports without deciding them: where each port ends after a fold of one operation over the ports. -/

namespace Sys2Proof.Machine

theorem allPorts_nodup : allPorts.Nodup := by decide

/-- An operation that writes its own port alone, run over several ports, writes each of them. `P` is what the record that it
writes is made under. -/
theorem foldl_port {f : State → Port → State} {g : Port → PortRecord → PortRecord} {P : State → Prop}
    (keep : ∀ s p, P s → P (f s p)) (one : ∀ s p q, P s → (f s p).port q = if q = p then g p (s.port p) else s.port q) :
    ∀ (ps : List Port) (s : State), P s → ps.Nodup → ∀ q, (ps.foldl f s).port q = if q ∈ ps then g q (s.port q) else s.port q
  | [], s, _, _, q => by simp
  | p :: ps, s, h, nodup, q => by
    obtain ⟨fresh, nodup'⟩ := List.nodup_cons.mp nodup
    rw [List.foldl_cons, foldl_port keep one ps _ (keep s p h) nodup' q, one s p q h]
    by_cases here : q = p
    · subst here
      simp [fresh]
    · simp [here]

/-- What the records of moved ports are made under. -/
structure SameService (s t : State) : Prop where
  su : t.su = s.su
  sf : t.sf = s.sf
  tm : t.tm = s.tm

theorem SameService.refl (s : State) : SameService s s := ⟨rfl, rfl, rfl⟩

theorem SameService.step {s t u : State} (h : SameService s t) (frame : PortsFrame t u) : SameService s u :=
  ⟨frame.su.trans h.su, frame.sf.trans h.sf, frame.tm.trans h.tm⟩

theorem SameService.resolve {s t : State} (h : SameService s t) (v : View) (c : Channel) : t.resolve v c = s.resolve v c :=
  State.resolve_congr (by rw [h.su]) h.tm (by rw [h.sf]) v c

/-! ## An alert's start (R12, R100) -/

/-- R85, R100: the record with which a port enters the alert of `s`. -/
def State.alerted (s : State) : PortRecord → PortRecord
  | .off => .off
  | .active .alert home stream d n => .active .alert home stream d n
  | .active _ home _ d _ => .active .alert home (s.resolve .alert home) d signalMs
  | .blanked _ home _ => .active .alert home (s.resolve .alert home) .noSignal signalMs

theorem State.enterAlert_port {s t : State} (h : SameService s t) (p q : Port) :
    (t.enterAlert p).port q = if q = p then s.alerted (t.port p) else t.port q := by
  unfold State.enterAlert
  split
  · next none =>
    split
    · next here =>
      subst here
      cases old : t.port q <;> simp [old, PortRecord.home] at none
      rfl
    · rfl
  · next home some =>
    rw [State.placeActive_port]
    split
    · simp only [State.activeRecord, h.resolve]
      cases old : t.port p with
      | off => simp [old, PortRecord.home] at some
      | blanked r c n =>
        obtain rfl : c = home := by simpa [old, PortRecord.home] using some
        rfl
      | active v c stream d n =>
        obtain rfl : c = home := by simpa [old, PortRecord.home] using some
        cases v <;> rfl
    · rfl

@[simp] theorem State.enterAlert_previews (s : State) (p : Port) : (s.enterAlert p).pc.previews = s.pc.previews := by
  unfold State.enterAlert
  split
  · rfl
  · simp [State.placeActive]

theorem State.enterAlerts_port (s : State) (q : Port) : (allPorts.foldl State.enterAlert s).port q = s.alerted (s.port q) := by
  rw [foldl_port (f := State.enterAlert) (g := fun _ => s.alerted) (P := SameService s)
    (fun t p h => h.step (t.enterAlert_ports p)) (fun t p q h => State.enterAlert_port h p q) allPorts s (.refl s)
    allPorts_nodup, if_pos (mem_allPorts q)]

/-! ## Streams found anew (R24, R39, R100) -/

/-- R24: an active port's record with its stream found anew. -/
def State.restreamed (s : State) : PortRecord → PortRecord
  | .active v home _ d _ => .active v home (s.resolve v home) d signalMs
  | r => r

theorem State.restream_port {s t : State} (h : SameService s t) (p q : Port) :
    (t.restream p).port q = if q = p then s.restreamed (t.port p) else t.port q := by
  unfold State.restream
  split
  · next v home stream d n old =>
    rw [State.setPort_port]
    simp only [old, State.restreamed, h.resolve]
  · next other =>
    split
    · next here =>
      subst here
      cases old : t.port q with
      | active v home stream d n => exact absurd old (other v home stream d n)
      | off => rfl
      | blanked => rfl
    · rfl

@[simp] theorem State.restream_previews (s : State) (p : Port) : (s.restream p).pc.previews = s.pc.previews := by
  unfold State.restream
  split <;> rfl

theorem State.restreamAll_port (s : State) (q : Port) : s.restreamAll.port q = s.restreamed (s.port q) := by
  unfold State.restreamAll
  rw [foldl_port (g := fun _ => s.restreamed) (P := SameService s) (fun t p h => h.step (t.restream_ports p))
    (fun t p q h => State.restream_port h p q) allPorts s (.refl s) allPorts_nodup, if_pos (mem_allPorts q)]

theorem foldl_previews {f : State → Port → State} (one : ∀ s p, (f s p).pc.previews = s.pc.previews) (ps : List Port)
    (s : State) : (ps.foldl f s).pc.previews = s.pc.previews :=
  List.foldlRecOn (motive := fun t : State => t.pc.previews = s.pc.previews) _ _ rfl fun t ih p _ => (one t p).trans ih

@[simp] theorem State.restreamAll_previews (s : State) : s.restreamAll.pc.previews = s.pc.previews :=
  foldl_previews State.restream_previews _ _

theorem State.restreamAlerts_port (s : State) (q : Port) :
    s.restreamAlerts.port q = if (s.port q).isAlert then s.restreamed (s.port q) else s.port q := by
  unfold State.restreamAlerts
  rw [foldl_port (g := fun _ r => if r.isAlert then s.restreamed r else r) (P := SameService s) ?_ ?_ allPorts s (.refl s)
    allPorts_nodup, if_pos (mem_allPorts q)]
  · intro t p h
    split
    · exact h.step (t.restream_ports p)
    · exact h
  · intro t p q h
    split
    · next alert => rw [State.restream_port h]
    · next alert =>
      split
      · next here => rw [here]
      · rfl

@[simp] theorem State.restreamAlerts_previews (s : State) : s.restreamAlerts.pc.previews = s.pc.previews :=
  foldl_previews (fun t p => by split <;> simp) _ _

/-! ## A preview that is over (R97) -/

/-- R97, step 2: where a port in PREVIEW goes when its title's length is used up. -/
def PortRecord.over (r : PortRecord) : PortRecord :=
  match r.home with
  | none => r
  | some home => r.blankedFor .previewOver home

theorem State.overPreview_port (s : State) (p q : Port) :
    (s.overPreview p).port q = if q = p then (s.port p).over else s.port q := by
  unfold State.overPreview PortRecord.over
  cases home : (s.port p).home with
  | none =>
    show s.port q = if q = p then s.port p else s.port q
    split
    · next here => rw [here]
    · rfl
  | some c => exact s.setPort_port p _ q

@[simp] theorem State.overPreview_previews (s : State) (p : Port) : (s.overPreview p).pc.previews = s.pc.previews := by
  unfold State.overPreview
  split <;> rfl

theorem State.overPreviews_port (s : State) {ps : List Port} (nodup : ps.Nodup) (q : Port) :
    (ps.foldl State.overPreview s).port q = if q ∈ ps then (s.port q).over else s.port q :=
  foldl_port (g := fun _ => PortRecord.over) (P := fun _ => True) (fun _ _ _ => trivial)
    (fun t p q _ => t.overPreview_port p q) ps s trivial nodup q

end Sys2Proof.Machine
end

section
/-! R88's laws, the streams (R23) and the laws of the key store (R51, R63) through every event. -/

namespace Sys2Proof.Machine

/-! ## What no law of the ports reads -/

/-- A port record without its delivery, its timer and its cadence. -/
def PortRecord.screen : PortRecord → PortRecord
  | .off => .off
  | .active v home stream _ _ => .active v home stream .noSignal 0
  | .blanked r home _ => .blanked r home 0

theorem PortRecord.shows_of_screen {a b : PortRecord} (h : b.screen = a.screen) : a.shows b := by
  cases a <;> cases b <;> simp [PortRecord.screen, PortRecord.shows] at h ⊢
  exact ⟨h.1.symm, h.2.1.symm⟩

/-- `t` agrees with `s` on all that R88's laws, the streams and the laws of the key store read. -/
structure Quiet (s t : State) : Prop where
  screen   : ∀ p, (t.port p).screen = (s.port p).screen := by intros; rfl
  services : t.tm.services = s.tm.services := by rfl
  remap    : t.sf.remap = s.sf.remap := by rfl
  alert    : t.su.alert.map (·.channel) = s.su.alert.map (·.channel) := by rfl
  occupied : t.isOccupied = s.isOccupied := by rfl
  first    : t.su.vacantFirst = s.su.vacantFirst := by rfl
  last     : t.su.vacantLast = s.su.vacantLast := by rfl
  packages : t.su.packages = s.su.packages := by rfl
  ceiling  : ∀ p, t.effectiveCeiling p = s.effectiveCeiling p := by intros; rfl
  bought   : ∀ title, (t.purchase title).isSome = (s.purchase title).isSome := by intros; rfl
  record   : ∀ title, s.isPreviewed title = true → s.pc.previews.any (·.title == title) = true →
    t.pc.previews.any (·.title == title) = true := by intros; assumption
  slot     : t.ks.slot = s.ks.slot := by rfl
  ways     : ∀ i : Fin 32, t.ks.sets[i].way0 = s.ks.sets[i].way0 ∧ t.ks.sets[i].way1 = s.ks.sets[i].way1 := by
    intros; exact ⟨rfl, rfl⟩

theorem Quiet.refl (s : State) : Quiet s s := {}

theorem Quiet.entry {s t : State} (h : Quiet s t) (c : Channel) : t.entry c = s.entry c := by
  simp only [State.entry, h.services]

theorem Quiet.previewing {s t : State} (h : Quiet s t) (p : Port) : t.previewing p = s.previewing p := by
  have same := h.screen p
  have title : t.titleOn = s.titleOn := by
    funext c
    simp only [State.titleOn, h.entry]
  have active : ∀ {v : View} {home : Channel} {stream stream' : Option Nat} {d d' : Delivery} {n n' : Nat},
      t.port p = .active v home stream' d' n' → s.port p = .active v home stream d n → t.previewing p = s.previewing p := by
    intro v home _ _ _ _ _ _ new old
    cases v <;> simp [State.previewing, new, old, title]
  cases new : t.port p <;> cases old : s.port p <;> simp only [new, old, PortRecord.screen, reduceCtorEq] at same
  · simp [State.previewing, new, old]
  · obtain ⟨rfl, rfl, -⟩ := PortRecord.active.inj same
    exact active new old
  · simp [State.previewing, new, old]

theorem Quiet.trans {s t u : State} (h : Quiet s t) (k : Quiet t u) : Quiet s u where
  screen p := (k.screen p).trans (h.screen p)
  services := k.services.trans h.services
  remap := k.remap.trans h.remap
  alert := k.alert.trans h.alert
  occupied := k.occupied.trans h.occupied
  first := k.first.trans h.first
  last := k.last.trans h.last
  packages := k.packages.trans h.packages
  ceiling p := (k.ceiling p).trans (h.ceiling p)
  bought title := (k.bought title).trans (h.bought title)
  record title shown had := by
    refine k.record title ?_ (h.record title shown had)
    simpa only [State.isPreviewed, h.previewing] using shown
  slot := k.slot.trans h.slot
  ways i := ⟨(k.ways i).1.trans (h.ways i).1, (k.ways i).2.trans (h.ways i).2⟩

/-- A fold of operations that are each quiet. -/
theorem Quiet.foldl {α : Type} {f : State → α → State} (one : ∀ s a, Quiet s (f s a)) :
    ∀ (l : List α) (s : State), Quiet s (l.foldl f s)
  | [], s => .refl s
  | a :: l, s => (one s a).trans (Quiet.foldl one l (f s a))

theorem Quiet.alertSome {s t : State} (h : Quiet s t) : t.su.alert.isSome = s.su.alert.isSome := by
  have := congrArg Option.isSome h.alert
  simpa using this

theorem Quiet.portLawful {s t : State} (h : Quiet s t) {p : Port} (law : s.portLawful p = true) : t.portLawful p = true :=
  State.portLawful_of_shows law (PortRecord.shows_of_screen (h.screen p))
    ⟨h.alertSome, h.occupied, h.first, h.last, h.packages, h.ceiling p⟩ (fun c _ _ => h.entry c) (fun _ title _ _ => h.bought title)
    fun title shown => h.record title (List.any_eq_true.mpr ⟨p, mem_allPorts p, by simp [shown]⟩)

theorem Quiet.resolve {s t : State} (h : Quiet s t) (v : View) (c : Channel) : t.resolve v c = s.resolve v c := by
  have entry : t.entry = s.entry := funext h.entry
  cases v <;> simp only [State.resolve, State.serviceOf, State.serviceChannel, h.alert, entry, h.remap]

theorem Quiet.streamTrue {s t : State} (h : Quiet s t) {p : Port} (law : s.streamTrue p = true) : t.streamTrue p = true := by
  have same := h.screen p
  unfold State.streamTrue at law ⊢
  cases new : t.port p <;> cases old : s.port p <;> simp only [new, old, PortRecord.screen, reduceCtorEq] at same law ⊢
  obtain ⟨rfl, rfl, rfl, -⟩ := PortRecord.active.inj same
  rw [h.resolve]
  exact law

/-- R56: which groups are in use is read from the views, the alert channel and the Service Map. -/
theorem State.serviceGroup_of_screen {s t : State} {p : Port} (screen : (t.port p).shows (s.port p))
    (services : t.tm.services = s.tm.services) (alert : t.su.alert.map (·.channel) = s.su.alert.map (·.channel)) :
    t.serviceGroup p = s.serviceGroup p := by
  have entry : t.entry = s.entry := by funext c; simp only [State.entry, services]
  unfold State.serviceGroup State.service
  cases new : t.port p <;> cases old : s.port p <;> simp only [new, old, PortRecord.shows] at screen ⊢
  obtain ⟨rfl, rfl⟩ := screen
  rename_i v home _ _ _ _ _ _
  cases v <;> simp only [State.serviceOf, State.serviceChannel, alert, entry]

theorem Quiet.serviceGroup {s t : State} (h : Quiet s t) (p : Port) : t.serviceGroup p = s.serviceGroup p :=
  State.serviceGroup_of_screen (PortRecord.shows_of_screen (h.screen p).symm) h.services h.alert

theorem State.wayPinned_congr {s t : State} (used : ∀ p, t.serviceGroup p = s.serviceGroup p) (way : Option KeyEntry) :
    t.wayPinned way = s.wayPinned way := by
  simp only [State.wayPinned, State.pinned, used]

/-- R63: the law of the slot reads the places and the groups in use. -/
theorem State.SlotLaw.congr {s t : State} (law : s.SlotLaw) (used : ∀ p, t.serviceGroup p = s.serviceGroup p)
    (slot : t.ks.slot = s.ks.slot)
    (ways : ∀ i : Fin 32, t.ks.sets[i].way0 = s.ks.sets[i].way0 ∧ t.ks.sets[i].way1 = s.ks.sets[i].way1) : t.SlotLaw := by
  intro e held
  have held : t.ks.slot = some e := held
  rw [slot] at held
  rw [(ways _).1, (ways _).2, State.wayPinned_congr used, State.wayPinned_congr used]
  exact law e held

theorem KeyStore.StoreLaw.congr {a b : KeyStore} (law : a.StoreLaw) (slot : b.slot = a.slot)
    (ways : ∀ i : Fin 32, b.sets[i].way0 = a.sets[i].way0 ∧ b.sets[i].way1 = a.sets[i].way1) : b.StoreLaw := by
  have same : ∀ g place, b.at g place = a.at g place := by
    rintro g ((_ | _) | _)
    · exact (ways _).1
    · exact (ways _).2
    · exact slot
  rw [KeyStore.storeLaw_iff] at law ⊢
  simpa only [same] using law

/-! ## The laws through an event -/

/-- The laws that an event keeps. R23's is kept with R88's, and R63's with R51's. -/
structure State.Keeps (s t : State) : Prop where
  store  : s.ks.StoreLaw → t.ks.StoreLaw
  port   : s.PortLaw → t.PortLaw
  stream : s.PortLaw → s.StreamLaw → t.StreamLaw
  slot   : s.ks.StoreLaw → s.SlotLaw → t.SlotLaw

theorem State.Keeps.refl (s : State) : s.Keeps s := ⟨id, id, fun _ => id, fun _ => id⟩

theorem State.Keeps.trans {s t u : State} (h : s.Keeps t) (k : t.Keeps u) : s.Keeps u :=
  ⟨fun store => k.store (h.store store), fun port => k.port (h.port port),
    fun port stream => k.stream (h.port port) (h.stream port stream),
    fun store slot => k.slot (h.store store) (h.slot store slot)⟩

theorem Quiet.keeps {s t : State} (h : Quiet s t) : s.Keeps t where
  store law := law.congr h.slot h.ways
  port law p := h.portLawful (law p)
  stream _ law p := h.streamTrue (law p)
  slot _ law := law.congr h.serviceGroup h.slot h.ways

/-- The laws of an event that decides ports: `s` is what it writes first, and a port that stays keeps its laws there. -/
theorem PortsDecided.keeps {before s t : State} {target : Port → Option Channel} (h : PortsDecided before s t target)
    (acts : Acts before t)
    (stay : before.PortLaw → ∀ p, target p = none → s.portLawful p = true)
    (stream : before.PortLaw → ∀ p, target p = none → before.streamTrue p = true → s.streamTrue p = true)
    (alerted : ∀ home, s.su.alert ≠ none → s.resolve .alert home = before.resolve .alert home) : before.Keeps t where
  store := acts.keep (P := fun s => s.ks.StoreLaw) fun _ _ => Act.keeps_storeLaw
  port law := h.portLaw (stay law)
  stream ports law p := h.streamTrue (fun none => stream ports p none (law p)) fun home st d n _ old active => by
    have own := law p
    simp only [State.streamTrue, old, beq_iff_eq] at own
    rw [own, alerted home active]
  slot _ _ := h.2.1.slotLaw

theorem State.streamTrue_congr {s t : State} {p : Port} (port : t.port p = s.port p)
    (alert : t.su.alert.map (·.channel) = s.su.alert.map (·.channel)) (tm : t.tm = s.tm) (remap : t.sf.remap = s.sf.remap) :
    t.streamTrue p = s.streamTrue p := by
  unfold State.streamTrue
  rw [port]
  simp only [State.resolve_congr alert tm remap]

/-- R3, R4, R7, R110: an event that decides every port for its home channel, with the tables and the alert as they were. -/
theorem PortsDecided.keeps_all {before s t : State} (h : PortsDecided before s t before.homes) (acts : Acts before t)
    (was : ∀ p, s.port p = before.port p) (alert : s.su.alert = before.su.alert) (tm : s.tm = before.tm)
    (sf : s.sf.remap = before.sf.remap) : before.Keeps t := by
  have off : ∀ p, before.homes p = none → s.port p = .off := by
    intro p none
    rw [was p]
    unfold State.homes at none
    cases port : before.port p <;> simp [port, PortRecord.home] at none
    rfl
  refine h.keeps acts (fun _ p none => by simp [State.portLawful, off p none])
    (fun _ p none _ => by simp [State.streamTrue, off p none]) fun home _ => State.resolve_congr (by rw [alert]) tm sf _ _

/-- An event that decides ports, with the tables and the alert as they were: a port that stays keeps its laws where the rules
that it stands under stay for it. -/
theorem PortsDecided.keeps_some {before s t : State} {target : Port → Option Channel} (h : PortsDecided before s t target)
    (acts : Acts before t) (was : ∀ p, s.port p = before.port p) (alert : s.su.alert = before.su.alert)
    (tm : s.tm = before.tm) (sf : s.sf.remap = before.sf.remap)
    (rules : ∀ p, target p = none → (before.port p).home ≠ none → SameRules p before s)
    (bought : ∀ p c title, target p = none → (before.port p).home = some c → before.titleOn c = some title →
      (s.purchase title).isSome = (before.purchase title).isSome)
    (record : ∀ p title, before.previewing p = some title → before.pc.previews.any (·.title == title) = true →
      s.pc.previews.any (·.title == title) = true) : before.Keeps t := by
  refine h.keeps acts (fun law p none => ?_) (fun _ p _ law => ?_) fun home _ => State.resolve_congr (by rw [alert]) tm sf _ _
  · by_cases off : (before.port p).home = Option.none
    · have off' : s.port p = .off := by
        rw [was p]
        cases port : before.port p <;> simp [port, PortRecord.home] at off
        rfl
      simp [State.portLawful, off']
    · exact State.portLawful_of_shows (law p) (by rw [was p]; exact PortRecord.shows_self _) (rules p none off)
        (fun c _ _ => by simp only [State.entry, tm]) (fun c title => bought p c title none) fun title => record p title
  · rw [State.streamTrue_congr (was p) (by rw [alert]) tm sf]
    exact law

end Sys2Proof.Machine
end

section
/-! The events that touch no law of the ports (`Quiet`), and the events that write the key store alone. -/

namespace Sys2Proof.Machine

/-! ## Quiet operations -/

theorem Quiet.of_frame {s t : State} (frame : PortsFrame s t) (screen : ∀ p, (t.port p).screen = (s.port p).screen)
    (previews : t.pc.previews = s.pc.previews) : Quiet s t where
  screen := screen
  services := by rw [frame.tm]
  remap := by rw [frame.sf]
  alert := by rw [frame.su]
  occupied := by rw [State.isOccupied, State.isOccupied, frame.su]
  first := by rw [frame.su]
  last := by rw [frame.su]
  packages := by rw [frame.su]
  ceiling p := by rw [State.effectiveCeiling, State.effectiveCeiling, frame.lu]
  bought title := by rw [State.purchase, State.purchase, frame.pu]
  record title _ had := by rw [previews]; exact had
  slot := by rw [frame.ks]
  ways i := by rw [frame.ks]; exact ⟨rfl, rfl⟩

theorem State.screen_setPort {s : State} {p : Port} {r : PortRecord} (same : r.screen = (s.port p).screen) (q : Port) :
    ((s.setPort p r).port q).screen = (s.port q).screen := by
  rw [State.setPort_port]
  split
  · next here => rw [here, same]
  · rfl

theorem State.announce_quiet (s before : State) : Quiet s (s.announce before) :=
  .of_frame (s.announce_ports before) (fun p => by rw [State.announce_port]) (by rw [State.announce_pc])

theorem State.expireSignal_quiet (s : State) (p : Port) : Quiet s (s.expireSignal p) := by
  have frame := s.expireSignal_ports p
  unfold State.expireSignal at frame ⊢
  split
  · next v home stream d n port =>
    rw [port] at frame
    refine .of_frame frame (fun q => ?_) (by rw [State.notifyChange_pc]; rfl)
    rw [State.port, State.notifyChange_pc]
    exact State.screen_setPort (by rw [port]; rfl) q
  · exact .refl s

theorem State.expireCadence_quiet (s : State) (p : Port) : Quiet s (s.expireCadence p) := by
  have frame := s.expireCadence_ports p
  unfold State.expireCadence at frame ⊢
  split
  · next r home n port =>
    rw [port] at frame
    refine .of_frame frame (fun q => ?_) (by rw [State.sendData_pc]; rfl)
    rw [State.port, State.sendData_pc]
    exact State.screen_setPort (by rw [port]; rfl) q
  · exact .refl s

theorem State.setPort_quiet {s : State} {p : Port} {r : PortRecord} (same : r.screen = (s.port p).screen) :
    Quiet s (s.setPort p r) := .of_frame (s.setPort_portsFrame p r) (State.screen_setPort same) rfl

theorem State.portMillisecond_quiet (s : State) (p : Port) : Quiet s (s.portMillisecond p) := by
  unfold State.portMillisecond
  split
  · next port => exact State.setPort_quiet (by rw [port]; rfl)
  · exact s.expireSignal_quiet p
  · next port => exact State.setPort_quiet (by rw [port]; rfl)
  · exact s.expireCadence_quiet p
  · exact .refl s

theorem State.choices_quiet (s : State) (c : Choices) : Quiet s { s with choices := c } := {}

theorem State.millisecond_quiet (s : State) : Quiet s s.millisecond :=
  (s.choices_quiet _).trans (Quiet.foldl (fun t p => t.portMillisecond_quiet p) _ _)

theorem State.copyCleared_quiet (s : State) (p : Port) (u : Unit96) (body : Vector Byte 88) : Quiet s (s.copyCleared p u body) := by
  have frame := s.copyCleared_ports p u body
  unfold State.copyCleared at frame ⊢
  split
  · next v home stream d n port =>
    rw [port] at frame
    refine .of_frame frame (fun q => ?_) (by rw [State.sendData_pc, State.notifyChange_pc]; rfl)
    rw [State.port, State.sendData_pc, State.notifyChange_pc]
    exact State.screen_setPort (by rw [port]; rfl) q
  · exact .refl s

theorem State.copyMissed_quiet (s : State) (p : Port) : Quiet s (s.copyMissed p) := by
  have frame := s.copyMissed_ports p
  unfold State.copyMissed at frame ⊢
  split
  · next v home stream d n port =>
    rw [port] at frame
    refine .of_frame frame (fun q => ?_) (by rw [State.notifyChange_pc]; rfl)
    rw [State.port, State.notifyChange_pc]
    exact State.screen_setPort (by rw [port]; rfl) q
  · exact .refl s

theorem KeyStore.mark_ways (ks : KeyStore) (g : Nat) (w : Way) (i : Fin 32) :
    (ks.mark g w).sets[i].way0 = ks.sets[i].way0 ∧ (ks.mark g w).sets[i].way1 = ks.sets[i].way1 := by
  have way0 := ks.at_mark g i.val w (.way .way0)
  have way1 := ks.at_mark g i.val w (.way .way1)
  simp only [KeyStore.at, setOf_val] at way0 way1
  exact ⟨way0, way1⟩

theorem State.laneMark_quiet (s : State) (p : Port) (u : Unit96) : Quiet s (s.laneMark p u) := by
  have marked : ∀ g, Quiet s { s with ks := s.ks.lookupMark g } := by
    intro g
    unfold KeyStore.lookupMark
    split
    · next w _ => exact { ways := s.ks.mark_ways g w }
    · exact .refl s
  unfold State.laneMark
  split
  · exact marked _
  · exact .refl s

theorem State.treatCopy_quiet (s : State) (p : Port) (u : Unit96) : Quiet s (s.treatCopy p u) := by
  unfold State.treatCopy
  dsimp only
  split
  · exact (s.laneMark_quiet p u).trans (State.copyCleared_quiet _ p u _)
  · exact (s.laneMark_quiet p u).trans (State.copyMissed_quiet _ p)

theorem State.deliver_quiet (s : State) (u : Unit96) : Quiet s (s.deliver u) := by
  unfold State.deliver
  split
  · exact .refl s
  · exact (s.choices_quiet _).trans (Quiet.foldl (fun t p => t.treatCopy_quiet p u) _ _)

theorem State.openBurst_quiet (s : State) (u : Unit96) (t : Table) : Quiet s (s.openBurst u t) := by
  unfold State.openBurst
  dsimp only
  split <;> exact {}

theorem State.handReturn_quiet (s : State) (r : ReturnUnit) : Quiet s (s.handReturn r) := by
  unfold State.handReturn
  split_ifs <;> exact {}

theorem State.endReturn_quiet (s : State) : Quiet s s.endReturn := by
  unfold State.endReturn
  split <;> exact {}

theorem State.releaseTo_quiet (s : State) (n : Nat) : Quiet s (s.releaseTo n) := by
  obtain e | ⟨settling, e⟩ := s.releaseTo_cases n <;> rw [e]
  · exact {}
  · exact { occupied := by simp [State.isOccupied, settling] }

theorem State.tick_quiet (s : State) : Quiet s { s with su := s.su.tickClock.countSilence } := by
  unfold StayUnit.countSilence
  split <;> exact {}

theorem State.accrueOutage_quiet (s : State) : Quiet s s.accrueOutage where
  bought title := by
    have titles : ∀ t : State, (t.purchase title).isSome = (t.pu.purchases.map (·.title)).contains title := by
      intro t
      rw [Bool.eq_iff_iff, State.purchase, List.find?_isSome, List.contains_iff_mem, List.mem_map]
      simp only [beq_iff_eq]
    rw [titles, titles, s.accrueOutage_map (·.title) fun _ _ => rfl]

theorem State.countPreview_quiet (s : State) : Quiet s s.countPreview where
  record title _ had := by
    rw [any_title] at had ⊢
    obtain ⟨x, m, own⟩ := had
    refine ⟨_, List.mem_map_of_mem m, ?_⟩
    split <;> exact own

/-! ## Writes of the key store alone -/

theorem State.Keeps.keys {s : State} {k : KeyStore} (store : s.ks.StoreLaw → k.StoreLaw)
    (slot : s.ks.StoreLaw → s.SlotLaw → ({ s with ks := k } : State).SlotLaw) : s.Keeps { s with ks := k } :=
  ⟨store, id, fun _ => id, slot⟩

theorem State.migrate_keeps (s : State) : s.Keeps s.migrate := by
  rw [s.migrate_eq]
  refine .keys State.migrate_storeLaw fun _ _ => ?_
  have law := s.migrate_slotLaw
  rw [s.migrate_eq] at law
  exact law

theorem State.clearKeys_keeps (s : State) : s.Keeps { s with ks := s.ks.clear } :=
  .keys (fun _ => s.ks.clear_storeLaw) fun _ _ e held => absurd held (by simp [KeyStore.clear])

/-- A write of the key store with the migration that ends its event. -/
theorem State.Keeps.migrated {s : State} {k : KeyStore} (store : s.ks.StoreLaw → k.StoreLaw) :
    s.Keeps ({ s with ks := k } : State).migrate := by
  rw [State.migrate_eq]
  refine .keys (fun law => State.migrate_storeLaw (s := { s with ks := k }) (store law)) fun _ _ => ?_
  have law := ({ s with ks := k } : State).migrate_slotLaw
  rw [State.migrate_eq] at law
  exact law

theorem State.expireKey_keeps (s : State) (g : Nat) (ph : KeyPhase) : s.Keeps (s.expireKey g ph) :=
  .migrated fun law => law.dropPhase g ph

/-- The places of a set, by the group of the slot's entry. -/
theorem State.slotLaw_iff (s : State) : s.SlotLaw ↔ ∀ e, s.ks.slot = some e → ∀ w, ∃ x, s.ks.at e.group (.way w) = some x ∧
    s.pinned x.group = true := by
  have way : ∀ o : Option KeyEntry, s.wayPinned o = true ↔ ∃ x, o = some x ∧ s.pinned x.group = true := by
    intro o
    simp [State.wayPinned, Option.any_eq_true]
  constructor
  · intro law e slot w
    obtain ⟨way0, way1⟩ := law e slot
    cases w
    · exact (way _).mp way0
    · exact (way _).mp way1
  · intro law e slot
    exact ⟨(way _).mpr (law e slot .way0), (way _).mpr (law e slot .way1)⟩

theorem State.victim_none {s : State} {st : KeySet} (victim : s.victim st = none) (w : Way) :
    ∃ x, st.way w = some x ∧ s.pinned x.group = true := by
  have pinned : s.wayPinned st.way0 = true ∧ s.wayPinned st.way1 = true := by
    unfold State.victim at victim
    split at victim <;> simp_all
  cases w
  · simpa [State.wayPinned, Option.any_eq_true, KeySet.way] using pinned.1
  · simpa [State.wayPinned, Option.any_eq_true, KeySet.way] using pinned.2

theorem State.victim_some {s : State} {st : KeySet} {w : Way} (free : st.freeWay = none) (victim : s.victim st = some w) :
    ∃ x, st.way w = some x ∧ s.pinned x.group = false := by
  obtain ⟨way0, way1, recent⟩ := st
  cases way0 with
  | none => simp [KeySet.freeWay] at free
  | some a =>
    cases way1 with
    | none => simp [KeySet.freeWay] at free
    | some b =>
      cases ha : s.pinned a.group <;> cases hb : s.pinned b.group <;>
        simp [State.victim, State.wayPinned, ha, hb] at victim <;> subst victim
      · cases recent
        · exact ⟨b, rfl, hb⟩
        · exact ⟨a, rfl, ha⟩
      · exact ⟨a, rfl, ha⟩
      · exact ⟨b, rfl, hb⟩

/-- R59 to R63: a load leaves the slot's set in use: what it places in a way it places in a free way or in place of an unused
group, and it fills the slot only while both ways of the set are in use. -/
theorem State.placeKey_slotLaw {s : State} (g : Nat) (ph : KeyPhase) (k : PhaseKey) (law : s.SlotLaw) :
    ({ s with ks := s.placeKey g ph k } : State).SlotLaw := by
  rw [State.slotLaw_iff] at law ⊢
  show ∀ e, (s.placeKey g ph k).slot = some e → ∀ w, ∃ x, (s.placeKey g ph k).at e.group (.way w) = some x ∧
    s.pinned x.group = true
  /- A way of a set that is not the slot's keeps its entry. -/
  have placed : ∀ (e' : KeyEntry) (w' : Way), e'.group = g →
      (s.ks.at g (.way w') = none ∨ ∃ x, s.ks.at g (.way w') = some x ∧ s.pinned x.group = false) →
      ∀ e, s.ks.slot = some e → ∀ w, ∃ x, (s.ks.placeInWay e' w').at e.group (.way w) = some x ∧ s.pinned x.group = true := by
    intro e' w' own given e slot w
    obtain ⟨x, there, pinned⟩ := law e slot w
    refine ⟨x, ?_, pinned⟩
    rw [KeyStore.placeInWay, KeyStore.at_mark, KeyStore.at_put, if_neg]
    · exact there
    · rintro ⟨same, near⟩
      obtain rfl := Place.way.inj same
      rw [own] at near
      have near := near.resolve_left (by simp)
      have same : s.ks.at e.group (.way w) = s.ks.at g (.way w) := by simp only [KeyStore.at, near]
      rw [same] at there
      rcases given with none | ⟨y, here, unpinned⟩
      · rw [none] at there
        cases there
      · rw [here] at there
        obtain rfl := Option.some.inj there
        rw [pinned] at unpinned
        cases unpinned
  have freshGroup : (KeyEntry.fresh g ph k).group = g := KeyEntry.setPhase_group _ _ _
  unfold State.placeKey
  dsimp only
  split
  · next place found =>
    obtain ⟨held, here, group⟩ := KeyStore.locate_some found
    intro e slot w
    have slot' : ∃ e', s.ks.slot = some e' ∧ e'.group = e.group := by
      cases place with
      | way w' => exact ⟨e, by simpa [KeyStore.put, KeyStore.setSet] using slot, rfl⟩
      | slot =>
        rw [KeyStore.put, here] at slot
        obtain rfl := Option.some.inj slot
        exact ⟨held, here, (KeyEntry.setPhase_group _ _ _).symm⟩
    obtain ⟨e', slot', same⟩ := slot'
    obtain ⟨x, there, pinned⟩ := law e' slot' w
    rw [same] at there
    rw [KeyStore.at_put]
    split
    · next here' =>
      obtain ⟨rfl, near⟩ := here'
      have near := near.resolve_left (by simp)
      have at' : s.ks.at e.group (.way w) = s.ks.at g (.way w) := by simp only [KeyStore.at, near]
      rw [at', here] at there
      obtain rfl := Option.some.inj there
      refine ⟨_, by rw [here]; rfl, ?_⟩
      rw [KeyEntry.setPhase_group]
      exact pinned
    · exact ⟨x, there, pinned⟩
  · next missed =>
    split
    · next w' free =>
      refine placed _ w' freshGroup (.inl ?_)
      unfold KeySet.freeWay at free
      split_ifs at free with h0 h1 <;> obtain rfl := Option.some.inj free
      · simpa [KeyStore.at, KeySet.way] using h0
      · simpa [KeyStore.at, KeySet.way] using h1
    · next w' free victim =>
      refine placed _ w' freshGroup (.inr ?_)
      exact State.victim_some free victim
    · next free victim =>
      intro e slot w
      have slot : some (KeyEntry.fresh g ph k) = some e := slot
      obtain rfl := Option.some.inj slot
      rw [freshGroup]
      have := State.victim_none victim w
      split <;> exact this

end Sys2Proof.Machine
end

section
/-! R88's laws, the streams and the laws of the key store through every event that moves ports, and so through every step. -/

namespace Sys2Proof.Machine

/-! ## Stay events and the lock -/

/-- R3, R4, R7, R110: the writes of an event that decides every port. -/
theorem State.reevaluateAll_keeps {s t : State} (acts : Acts s (t.reevaluateAll s).migrate) (port : ∀ p, t.port p = s.port p)
    (alert : t.su.alert = s.su.alert) (tm : t.tm = s.tm) (sf : t.sf.remap = s.sf.remap) :
    s.Keeps (t.reevaluateAll s).migrate :=
  PortsDecided.keeps_all (State.reevaluateAll_decided port) acts port alert tm sf

theorem State.openStay_keeps (s : State) (u : Unit96) (closed : s.isOccupied = false) :
    s.Keeps (s.openStay (stayOpenFields u)) := by
  have acts := s.openStay_acts u closed
  unfold State.openStay at acts ⊢
  exact State.reevaluateAll_keeps acts (fun _ => rfl) rfl rfl rfl

/-- R140: of SU the closing of the purchases writes spend alone. -/
theorem State.closeAll_su (s : State) : s.closeAll.su = { s.su with spend := s.closeAll.su.spend } :=
  List.foldlRecOn (motive := fun t : State => t.su = { s.su with spend := t.su.spend }) _ _ rfl fun t ih e _ => by
    rw [State.closePurchase_spend, ih]

theorem State.closeStay_keeps (s : State) : s.Keeps s.closeStay := by
  have acts := s.closeStay_acts
  have frame := s.closeAll_frame
  have port : ∀ p, s.closeAll.port p = s.port p := fun p => by rw [State.port, State.port, State.closeAll_pc]
  have alert : s.closeAll.su.alert = s.su.alert := by rw [State.closeAll_su]
  unfold State.closeStay at acts ⊢
  exact State.reevaluateAll_keeps acts port alert frame.tm (congrArg _ frame.sf)

theorem State.applySettings_keeps (s : State) (u : Unit96) : s.Keeps (s.applySettings (settingsFields u)) := by
  have acts := s.applySettings_acts u
  unfold State.applySettings at acts ⊢
  exact State.reevaluateAll_keeps acts (fun _ => rfl) rfl rfl rfl

theorem State.setCeiling_keeps (s : State) (value : Nat) (range : value ≤ 7) : s.Keeps (s.setCeiling value) := by
  have acts := s.setCeiling_acts value range
  unfold State.setCeiling at acts ⊢
  dsimp only at acts ⊢
  split
  · next same =>
    exact Quiet.keeps { ceiling := fun p => by simp only [State.effectiveCeiling, same] }
  · next other =>
    rw [if_neg other] at acts
    exact State.reevaluateAll_keeps acts (fun _ => rfl) rfl rfl rfl

/-- R117: a port with no unlock keeps its ceiling when the unlocks end. -/
theorem State.reevaluateUnlocked_keeps {s t : State} (acts : Acts s (t.reevaluateWhere s s.hasUnlock).migrate) (pc : t.pc = s.pc)
    (su : t.su = s.su) (tm : t.tm = s.tm) (sf : t.sf = s.sf) (pu : t.pu = s.pu) (ceiling : t.lu.ceiling = s.lu.ceiling)
    (ended : t.lu.unlocks = Vector.replicate 4 none) : s.Keeps (t.reevaluateWhere s s.hasUnlock).migrate := by
  have port : ∀ p, t.port p = s.port p := fun p => by rw [State.port, State.port, pc]
  have decided := State.reevaluateWhere_decided (before := s) (s := t) (test := s.hasUnlock) (fun p => (port p).symm)
    fun _ => rfl
  refine decided.keeps_some acts port (by rw [su]) tm (by rw [sf]) (fun p none home => ?_)
    (fun _ _ _ _ _ _ => by simp only [State.purchase, pu]) fun _ _ _ had => by rw [pc]; exact had
  have locked : s.hasUnlock p = false := by
    by_contra some
    rw [if_pos (by simpa using some), port] at none
    exact home none
  refine ⟨by rw [su], by simp only [State.isOccupied, su], by rw [su], by rw [su], by rw [su], ?_⟩
  have bare : s.lu.unlocks[p].isSome = false := locked
  have none' : t.lu.unlocks[p].isSome = false := by simp [ended]
  rw [State.effectiveCeiling, State.effectiveCeiling, bare, none', ceiling]

theorem State.endUnlocks_keeps (s : State) : s.Keeps s.endUnlocks := by
  have acts := s.endUnlocks_acts
  unfold State.endUnlocks at acts ⊢
  exact State.reevaluateUnlocked_keeps acts rfl rfl rfl rfl rfl rfl rfl

theorem State.wrongPin_keeps (s : State) (pin : s.lu.pin ≠ none) (unlocked : s.lu.lockout = none) : s.Keeps s.wrongPin.1 := by
  have acts := s.wrongPin_acts pin unlocked
  by_cases budget : (s.lu.countFailure s.su.clock).failures = (s.lu.countFailure s.su.clock).budget
  · simp only [State.wrongPin, if_pos budget] at acts ⊢
    exact State.reevaluateUnlocked_keeps acts rfl rfl rfl rfl rfl rfl rfl
  · simp only [State.wrongPin, if_neg budget]
    exact Quiet.keeps {}

/-- R108, R117: one port's unlock starts or ends. -/
theorem State.reevaluateOne_keeps {s t : State} {p : Port} (acts : Acts s (t.reevaluate s p).migrate) (pc : t.pc = s.pc)
    (su : t.su = s.su) (tm : t.tm = s.tm) (sf : t.sf = s.sf) (pu : t.pu = s.pu)
    (ceiling : ∀ q, q ≠ p → t.effectiveCeiling q = s.effectiveCeiling q) : s.Keeps (t.reevaluate s p).migrate := by
  have port : ∀ p, t.port p = s.port p := fun p => by rw [State.port, State.port, pc]
  refine (State.reevaluate_decided (before := s) (port p)).keeps_some acts port (by rw [su]) tm (by rw [sf])
    (fun q none home => ?_) (fun _ _ _ _ _ _ => by simp only [State.purchase, pu]) fun _ _ _ had => by rw [pc]; exact had
  have other : q ≠ p := by
    rintro rfl
    rw [if_pos rfl] at none
    exact home none
  exact ⟨by rw [su], by simp only [State.isOccupied, su], by rw [su], by rw [su], by rw [su], ceiling q other⟩

theorem State.setUnlock_ceiling (s : State) {p q : Port} (due : Option Nat) (other : q ≠ p) :
    (s.setUnlock p due).effectiveCeiling q = s.effectiveCeiling q := by
  have : p.val ≠ q.val := fun e => other (Fin.ext e.symm)
  simp [State.effectiveCeiling, Vector.getElem_set_ne _ _ this]

theorem State.endUnlock_keeps (s : State) (p : Port) : s.Keeps (s.endUnlock p) := by
  have acts := s.endUnlock_acts p
  unfold State.endUnlock at acts ⊢
  split
  · next some =>
    rw [if_pos some] at acts
    exact State.reevaluateOne_keeps acts rfl rfl rfl rfl rfl fun q other => s.setUnlock_ceiling none other
  · exact .refl s

theorem State.unlockPort_keeps (s : State) (p : Port) (seconds : Nat) (unlocked : s.lu.lockout = none) :
    s.Keeps (s.unlockPort p seconds) := by
  have acts := s.unlockPort_acts p seconds unlocked
  unfold State.unlockPort at acts ⊢
  exact State.reevaluateOne_keeps acts rfl rfl rfl rfl rfl fun q other =>
    ({ s with lu := { s.lu with failures := 0 } } : State).setUnlock_ceiling _ other

/-! ## Purchases -/

theorem State.homesWith_none {s : State} {title : Nat} {p : Port} {c : Channel} {x : Nat} (none : s.homesWith title p = none)
    (home : (s.port p).home = some c) (own : s.titleOn c = some x) : x ≠ title := by
  rintro rfl
  unfold State.homesWith at none
  rw [home, Option.bind_some, own, if_pos rfl] at none
  cases none

theorem State.purchase_filter (s t : State) {removed title : Nat} (pu : t.pu.purchases = s.pu.purchases.filter (·.title != removed))
    (other : title ≠ removed) : t.purchase title = s.purchase title := by
  rw [State.purchase, State.purchase, pu, find?_filter_title, if_neg other]

/-- R134, R135: a purchase removed, with the ports on its title decided anew. -/
theorem State.removed_keeps {s t : State} {title : Nat} (acts : Acts s (t.reevaluateTitle s title).migrate) (pc : t.pc = s.pc)
    (su : t.su = { s.su with spend := t.su.spend }) (tm : t.tm = s.tm) (sf : t.sf = s.sf) (lu : t.lu = s.lu)
    (pu : t.pu.purchases = s.pu.purchases.filter (·.title != title)) : s.Keeps (t.reevaluateTitle s title).migrate := by
  have port : ∀ p, t.port p = s.port p := fun p => by rw [State.port, State.port, pc]
  refine (State.reevaluateTitle_decided (before := s) title port tm).keeps_some acts port (by rw [su]) tm (by rw [sf])
    (fun p _ _ => ⟨by rw [su], by simp only [State.isOccupied]; rw [su], by rw [su], by rw [su], by rw [su],
      by simp only [State.effectiveCeiling, lu]⟩)
    (fun p c x none home own => by rw [State.purchase_filter s t pu (State.homesWith_none none home own)])
    fun _ _ _ had => by rw [pc]; exact had

theorem State.voidPurchase_keeps (s : State) (e : Purchase) (bought : s.purchase e.title = some e) : s.Keeps (s.voidPurchase e) := by
  have acts := s.voidPurchase_acts e bought
  unfold State.voidPurchase at acts ⊢
  exact State.removed_keeps acts rfl rfl rfl rfl rfl rfl

theorem State.endWindow_keeps (s : State) (e : Purchase) (due : Nat) (bought : s.purchase e.title = some e) :
    s.Keeps (s.endWindow e due) := by
  have acts := s.endWindow_acts e due bought
  unfold State.endWindow at acts ⊢
  refine State.removed_keeps acts (State.closePurchase_pc s e due) ?_ (s.closePurchase_due e due).tm (s.closePurchase_due e due).sf
    (s.closePurchase_lu e due) (s.closePurchase_purchases e due)
  rw [State.closePurchase_spend]

end Sys2Proof.Machine
end

section
/-! R88's laws, the streams and the laws of the key store through the alert, the tunes, the resets and the tables, and so
through every step. -/

namespace Sys2Proof.Machine

/-! ## The migration that ends an event -/

/-- The laws of an event that ends in a migration, by what it leaves before it. -/
theorem State.Keeps.then_migrate {s t : State} (store : s.ks.StoreLaw → t.ks.StoreLaw) (port : s.PortLaw → t.PortLaw)
    (stream : s.PortLaw → s.StreamLaw → t.StreamLaw) : s.Keeps t.migrate := by
  have law := t.migrate_slotLaw
  refine ⟨fun h => State.migrate_storeLaw (store h), fun h => ?_, fun h k => ?_, fun _ _ => law⟩
  · rw [t.migrate_eq]
    exact port h
  · rw [t.migrate_eq]
    exact stream h k

/-- R88's laws and the streams do not read the key store. -/
theorem State.PortLaw.unmigrate {t : State} (h : t.migrate.PortLaw) : t.PortLaw := by
  rw [t.migrate_eq] at h
  exact h

theorem State.streamTrue_unmigrate {t : State} {p : Port} (h : t.migrate.streamTrue p = true) : t.streamTrue p = true := by
  rw [t.migrate_eq] at h
  exact h

/-- R88: the rules that a port stands under, and its stream, under a frame of the port operations. -/
theorem PortsFrame.rules {s t : State} (frame : PortsFrame s t) (p : Port) : SameRules p s t :=
  ⟨by rw [frame.su], by simp only [State.isOccupied, frame.su], by rw [frame.su], by rw [frame.su], by rw [frame.su],
    by simp only [State.effectiveCeiling, frame.lu]⟩

theorem PortsFrame.portLawful {s t : State} (frame : PortsFrame s t) (previews : t.pc.previews = s.pc.previews) {p : Port}
    (shows : (s.port p).shows (t.port p)) (law : s.portLawful p = true) : t.portLawful p = true :=
  State.portLawful_of_shows law shows (frame.rules p) (fun _ _ _ => by simp only [State.entry, frame.tm])
    (fun _ _ _ _ => by simp only [State.purchase, frame.pu]) fun _ _ had => by rw [previews]; exact had

theorem PortsFrame.resolve {s t : State} (frame : PortsFrame s t) (v : View) (home : Channel) :
    t.resolve v home = s.resolve v home :=
  State.resolve_congr (by rw [frame.su]) frame.tm (by rw [frame.sf]) v home

theorem PortsFrame.streamTrue {s t : State} (frame : PortsFrame s t) {p : Port} (port : t.port p = s.port p) :
    t.streamTrue p = s.streamTrue p :=
  State.streamTrue_congr port (by rw [frame.su]) frame.tm (by rw [frame.sf])

/-! ## The alert (R12 to R14, R100, R101) -/

theorem State.PortLaw.not_alert {s : State} (law : s.PortLaw) (none : s.su.alert = none) (p : Port) :
    (s.port p).isAlert = false := by
  have lawful := law p
  cases port : s.port p with
  | off => rfl
  | blanked => rfl
  | active v home stream d n =>
    cases v with
    | alert => simp [State.portLawful, port, none] at lawful
    | playing => rfl
    | preview => rfl

theorem PortRecord.off_of_home {r : PortRecord} (h : r.home = none) : r = .off := by
  cases r <;> simp [PortRecord.home] at h
  rfl

/-- R88, R100: while an alert is active a port that is not in ALERT is OFF. -/
theorem State.portLawful_alert {s : State} {p : Port} (law : s.portLawful p = true) (some : s.su.alert ≠ none)
    (other : (s.port p).isAlert = false) : s.port p = .off := by
  cases port : s.port p with
  | off => rfl
  | blanked => simp [State.portLawful, port, some] at law
  | active v home stream d n =>
    cases v with
    | alert => simp [port, PortRecord.isAlert] at other
    | playing => simp [State.portLawful, port, some] at law
    | preview => simp [State.portLawful, port, some] at law

theorem State.endAlert_decided (s : State) : PortsDecided s (s.setAlert none) s.endAlert fun p =>
    if (s.port p).isAlert then (s.port p).home else none :=
  State.reevaluateWhere_decided (fun _ => rfl) fun _ => rfl

theorem State.endAlert_keeps (s : State) : s.Keeps s.endAlert := by
  refine PortsDecided.keeps s.endAlert_decided s.endAlert_acts (fun law p none => ?_) (fun law p none own => ?_) fun _ some =>
    absurd rfl some
  · have other : (s.port p).isAlert = false ∨ s.port p = .off := by
      by_cases alert : (s.port p).isAlert = true
      · rw [if_pos alert] at none
        exact .inr (PortRecord.off_of_home none)
      · exact .inl (by simpa using alert)
    have off : s.port p = .off → (s.setAlert Option.none).portLawful p = true := fun off => by
      have off : (s.setAlert Option.none).port p = .off := off
      simp [State.portLawful, off]
    rcases other with other | off'
    · by_cases some : s.su.alert = Option.none
      · refine State.portLawful_of_shows (law p) (PortRecord.shows_self _) ⟨by simp [some], rfl, rfl, rfl, rfl, rfl⟩
          (fun _ _ _ => rfl) (fun _ _ _ _ => rfl) fun _ _ had => had
      · exact off (State.portLawful_alert (law p) some other)
    · exact off off'
  · have stays : ∀ c, (s.setAlert Option.none).resolve .playing c = s.resolve .playing c ∧
        (s.setAlert Option.none).resolve .preview c = s.resolve .preview c := fun _ => ⟨rfl, rfl⟩
    have port : (s.setAlert Option.none).port p = s.port p := rfl
    unfold State.streamTrue at own ⊢
    rw [port]
    cases old : s.port p with
    | off => rfl
    | blanked => rfl
    | active v home stream d n =>
      rw [old] at own
      cases v with
      | playing => exact own
      | preview => exact own
      | alert => simp [old, PortRecord.isAlert, PortRecord.home] at none

theorem State.startAlert_keeps (s : State) (a : Alert) (none : s.su.alert = none) : s.Keeps (s.startAlert a).migrate := by
  have frame := s.startAlert_ports a
  have port : ∀ p, (s.startAlert a).port p = (s.setAlert (some a)).alerted (s.port p) := by
    intro p
    rw [State.startAlert, State.announce_port, State.enterAlerts_port]
    rfl
  have alert : (s.startAlert a).su.alert = some a := by rw [frame.su]; rfl
  refine .then_migrate (fun law => by rw [frame.ks]; exact law) (fun _ p => ?_) fun law _ p => ?_
  · unfold State.portLawful
    rw [port, alert]
    cases s.port p with
    | off => rfl
    | blanked => rfl
    | active v => cases v <;> rfl
  · have fresh : ∀ home, (s.startAlert a).resolve .alert home = (s.setAlert (some a)).resolve .alert home := fun home =>
      State.resolve_congr (by rw [frame.su]) frame.tm (by rw [frame.sf]) _ _
    have other := law.not_alert none p
    unfold State.streamTrue
    rw [port]
    cases old : s.port p with
    | off => rfl
    | blanked r home n => simp [State.alerted, fresh]
    | active v home stream d n =>
      cases v with
      | alert => simp [old, PortRecord.isAlert] at other
      | playing => simp [State.alerted, fresh]
      | preview => simp [State.alerted, fresh]

theorem State.restreamed_shows (s : State) (r : PortRecord) : r.shows (s.restreamed r) := by
  cases r <;> simp [State.restreamed, PortRecord.shows]

theorem State.moveAlert_keeps (s : State) (a : Alert) (old : s.su.alert ≠ none) : s.Keeps (s.moveAlert a).migrate := by
  have frame := s.moveAlert_ports a
  have port : ∀ p, (s.moveAlert a).port p =
      if (s.port p).isAlert then (s.setAlert (some a)).restreamed (s.port p) else s.port p := by
    intro p
    rw [State.moveAlert, State.announce_port, State.restreamAlerts_port]
    rfl
  have previews : (s.moveAlert a).pc.previews = s.pc.previews := by
    rw [State.moveAlert, State.announce_pc, State.restreamAlerts_previews]
    rfl
  have su : (s.moveAlert a).su = { s.su with alert := some a } := frame.su
  refine .then_migrate (fun law => by rw [frame.ks]; exact law) (fun law p => ?_) fun law own p => ?_
  · refine State.portLawful_of_shows (law p) ?_ ⟨?_, ?_, ?_, ?_, ?_, ?_⟩ (fun c _ _ => ?_) (fun c title _ _ => ?_) fun _ _ had => ?_
    · rw [port]
      split
      · exact State.restreamed_shows _ _
      · exact PortRecord.shows_self _
    · rw [su, Option.isSome_some, Option.isSome_iff_ne_none.mpr old]
    · rw [State.isOccupied, su]; rfl
    · rw [su]
    · rw [su]
    · rw [su]
    · rw [State.effectiveCeiling, frame.lu]; rfl
    · rw [State.entry, frame.tm]; rfl
    · rw [State.purchase, frame.pu]; rfl
    · rw [previews]; exact had
  · have resolve : ∀ v home, (s.moveAlert a).resolve v home = (s.setAlert (some a)).resolve v home := fun v home =>
      State.resolve_congr (by rw [frame.su]) frame.tm (by rw [frame.sf]) _ _
    have own := own p
    unfold State.streamTrue at own ⊢
    rw [port]
    cases here : s.port p with
    | off => rfl
    | blanked => rfl
    | active v home stream d n =>
      rw [here] at own
      cases v with
      | alert => simp [PortRecord.isAlert, State.restreamed, resolve]
      | playing =>
        simp only [PortRecord.isAlert, Bool.false_eq_true, if_false, resolve]
        exact own
      | preview =>
        simp only [PortRecord.isAlert, Bool.false_eq_true, if_false, resolve]
        exact own

theorem State.orderAlert_keeps (s : State) (a : Alert) : s.Keeps (s.orderAlert a) := by
  unfold State.orderAlert
  split
  · next none => exact s.startAlert_keeps a none
  · next old some =>
    split
    · next same =>
      refine Quiet.keeps { alert := ?_ }
      rw [some]
      show Option.some a.channel = Option.some old.channel
      rw [same]
    · exact s.moveAlert_keeps a (by simp [some])

/-! ## Tunes and OFF (R86, R87) -/

theorem State.tunePort_absent {s : State} {p : Port} {c : Channel} (absent : s.tuneDecision p c = .absent) :
    s.tunePort p c = s := by
  rw [State.tunePort, absent]
  rfl

theorem State.tune_keeps (s : State) (p : Port) (c : Channel) : s.Keeps ((s.tunePort p c).announce s).migrate := by
  by_cases absent : s.tuneDecision p c = .absent
  · rw [State.tunePort_absent absent]
    exact (s.announce_quiet s).keeps.trans (State.migrate_keeps _)
  · refine PortsDecided.keeps (State.tunePort_decided absent) (Event.tune p c).acts (fun law q _ => law q) (fun _ _ _ own => own)
      fun _ _ => rfl

/-- R87: a port that goes OFF leaves every other as it was. -/
theorem State.turnOff_keeps (s : State) (p : Port) : s.Keeps (s.turnOff s p).migrate := by
  have frame := s.turnOff_ports s p
  have port : ∀ q, (s.turnOff s p).port q = if q = p then .off else s.port q := fun q => by
    rw [State.turnOff, State.announce_port, State.setPort_port]
  have pc : (s.turnOff s p).pc.previews = s.pc.previews := by rw [State.turnOff, State.announce_pc]; rfl
  refine .then_migrate (fun law => by rw [frame.ks]; exact law) (fun law q => ?_) fun law own q => ?_
  · by_cases here : q = p
    · simp [State.portLawful, port, here]
    · exact frame.portLawful pc (by rw [port, if_neg here]; exact PortRecord.shows_self _) (law q)
  · by_cases here : q = p
    · simp [State.streamTrue, port, here]
    · rw [frame.streamTrue (by rw [port, if_neg here])]
      exact own q

/-- R103, R104: every port OFF. -/
theorem State.PortLaw.of_off {s : State} (off : ∀ p, s.port p = .off) : s.PortLaw ∧ s.StreamLaw :=
  ⟨fun p => by simp [State.portLawful, off], fun p => by simp [State.streamTrue, off]⟩

theorem State.turnAllOff_port (s before : State) (p : Port) : (s.turnAllOff before).port p = .off := by
  rw [State.turnAllOff, State.announce_port]
  simp [State.port]

theorem State.linkOff_keeps (s : State) : s.Keeps (({ s with lu := s.lu.endUnlocks } : State).turnAllOff s).migrate := by
  have laws := State.PortLaw.of_off (State.turnAllOff_port { s with lu := s.lu.endUnlocks } s)
  refine .then_migrate (fun law => ?_) (fun _ => laws.1) fun _ _ => laws.2
  rw [(State.turnAllOff_ports _ s).ks]
  exact law

theorem State.resetRoom_keeps (s : State) : s.Keeps s.resetRoom := by
  have off : ∀ p, s.resetRoom.port p = .off := State.turnAllOff_port (s.setAlert none) s
  have laws := State.PortLaw.of_off off
  have keys : s.resetRoom.ks = (((s.setAlert none).turnAllOff s).closeBurst).ks.clear := rfl
  refine ⟨fun _ => ?_, fun _ => laws.1, fun _ _ => laws.2, fun _ _ e held => ?_⟩
  · rw [keys]
    exact KeyStore.clear_storeLaw _
  · rw [keys] at held
    exact absurd held (by simp [KeyStore.clear])

end Sys2Proof.Machine
end

section
/-! The laws of the ports and of the key store through the accruals of a second (R97) and the writes of a burst (R24, R37 to
R39). -/

namespace Sys2Proof.Machine

/-! ## The accruals of a second (R97, R137) -/

theorem State.spent_preview {s : State} {p : Port} (spent : s.previewSpent p = true) :
    ∃ home stream d n, s.port p = .active .preview home stream d n := by
  unfold State.previewSpent at spent
  split at spent
  · next home stream d n port => exact ⟨home, stream, d, n, port⟩
  · simp at spent

/-- R97, step 2: a port in PREVIEW whose length is used up goes to BLANKED PREVIEW_OVER, and no other port moves. -/
theorem State.overPreviews_keeps (s : State) :
    s.Keeps (((allPorts.filter s.previewSpent).foldl State.overPreview s).announce s).migrate := by
  have folded : PortsFrame s ((allPorts.filter s.previewSpent).foldl State.overPreview s) :=
    PortsFrame.foldl (fun t p => t.overPreview_ports p) _ _
  have frame := folded.trans (State.announce_ports _ s)
  have port : ∀ p, (((allPorts.filter s.previewSpent).foldl State.overPreview s).announce s).port p =
      if s.previewSpent p then (s.port p).over else s.port p := by
    intro p
    rw [State.announce_port, State.overPreviews_port s (allPorts_nodup.filter _)]
    simp [mem_allPorts]
  have previews : (((allPorts.filter s.previewSpent).foldl State.overPreview s).announce s).pc.previews = s.pc.previews := by
    rw [State.announce_pc]
    exact foldl_previews State.overPreview_previews _ _
  generalize ((allPorts.filter s.previewSpent).foldl State.overPreview s).announce s = t at frame port previews
  have blanked : ∀ p, s.previewSpent p = true → ∃ home, t.port p = .blanked .previewOver home blankMs := by
    intro p spent
    obtain ⟨home, stream, d, n, old⟩ := State.spent_preview spent
    exact ⟨home, by rw [port, if_pos spent, old]; rfl⟩
  refine .then_migrate (fun law => by rw [frame.ks]; exact law) (fun law p => ?_) fun law own p => ?_
  · by_cases spent : s.previewSpent p = true
    · obtain ⟨home, stream, d, n, old⟩ := State.spent_preview spent
      obtain ⟨_, new⟩ := blanked p spent
      have lawful := law p
      simp only [State.portLawful, old, Bool.and_eq_true] at lawful
      simp only [State.portLawful, new, frame.su]
      exact lawful.1
    · exact frame.portLawful previews (by rw [port, if_neg spent]; exact PortRecord.shows_self _) (law p)
  · by_cases spent : s.previewSpent p = true
    · obtain ⟨_, new⟩ := blanked p spent
      simp [State.streamTrue, new]
    · rw [frame.streamTrue (by rw [port, if_neg spent])]
      exact own p

theorem State.accrue_keeps (s : State) : s.Keeps s.accrue :=
  (s.accrueOutage_quiet.keeps.trans (State.countPreview_quiet _).keeps).trans (State.overPreviews_keeps _)

/-! ## A Service Map write (R37 to R39) -/

/-- R37: the entry of a channel stored. -/
def State.storeService (s : State) (c : Channel) (e : Option Service) : State :=
  { s with tm := { s.tm with services := s.tm.services.set c e } }

theorem State.storeService_entry (s : State) (c x : Channel) (e : Option Service) :
    (s.storeService c e).entry x = if x = c then e else s.entry x := by
  simp only [State.entry, State.storeService, Fin.getElem_fin]
  rw [Vector.getElem_set]
  simp only [Fin.val_inj, eq_comm]

/-- R38: the ports on a channel that are not in ALERT. -/
def State.onChannel (s : State) (c : Channel) (p : Port) : Bool := ((s.port p).home == some c) && !(s.port p).isAlert

/-- R38: the ports on the channel of a Service Map write, decided anew. -/
def State.decideChannel (s : State) (c : Channel) (e : Option Service) : State :=
  (s.storeService c e).reevaluateWhere s (s.onChannel c)

theorem State.writeService_eq (s : State) (c : Channel) (e : Option Service) : s.writeService c e =
    (if (s.decideChannel c e).su.alert.any (·.channel == c) then (s.decideChannel c e).restreamAlerts
      else s.decideChannel c e).migrate := rfl

theorem State.decideChannel_decided (s : State) (c : Channel) (e : Option Service) :
    PortsDecided s (s.storeService c e) (s.decideChannel c e).migrate fun p =>
      if s.onChannel c p then (s.port p).home else none := by
  unfold State.decideChannel
  exact State.reevaluateWhere_decided (fun _ => rfl) fun _ => rfl

theorem State.decideChannel_frame (s : State) (c : Channel) (e : Option Service) :
    PortsFrame (s.storeService c e) (s.decideChannel c e) := by
  unfold State.decideChannel
  exact State.reevaluateWhere_ports _ _ _

/-- A port that is not on the channel is left as it was. -/
theorem State.decideChannel_port {s : State} {c : Channel} {p : Port} (e : Option Service) (off : s.onChannel c p = false) :
    (s.decideChannel c e).port p = s.port p := by
  have stays : (s.decideChannel c e).migrate.port p = (s.storeService c e).port p := by
    obtain ⟨-, -, ⟨order, all, decided⟩, -⟩ := s.decideChannel_decided c e
    exact decided.stays (p := p) (by simp [off]) (all.mem_iff.mpr (mem_allPorts p))
  rw [State.port, State.migrate_pc] at stays
  exact stays

/-- A port that the write does not decide shows another channel, or is in ALERT or OFF. -/
theorem State.onChannel_not {s : State} {c : Channel} {p : Port} (stays : (if s.onChannel c p then (s.port p).home else none) = none) :
    s.onChannel c p = false := by
  by_contra on
  rw [if_pos (by simpa using on)] at stays
  simp [State.onChannel, stays] at on

theorem State.decideChannel_portLaw {s : State} (c : Channel) (e : Option Service) (law : s.PortLaw) :
    (s.decideChannel c e).PortLaw := by
  refine State.PortLaw.unmigrate ((s.decideChannel_decided c e).portLaw fun p none => ?_)
  have off := State.onChannel_not none
  refine State.portLawful_of_shows (law p) (PortRecord.shows_self _) ⟨rfl, rfl, rfl, rfl, rfl, rfl⟩ (fun x home other => ?_)
    (fun _ _ _ _ => rfl) fun _ _ had => had
  rw [State.storeService_entry, if_neg]
  rintro rfl
  simp [State.onChannel, home, other] at off

/-- R23: the service of a view on another channel is as it was. -/
theorem State.storeService_resolve {s : State} {c : Channel} (e : Option Service) {v : View} {home : Channel}
    (other : s.serviceChannel v home ≠ some c) : (s.storeService c e).resolve v home = s.resolve v home := by
  have same : (s.storeService c e).serviceChannel v home = s.serviceChannel v home := by cases v <;> rfl
  unfold State.resolve State.serviceOf
  rw [same]
  cases channel : s.serviceChannel v home with
  | none => rfl
  | some x =>
    simp only [Option.bind_some]
    rw [State.storeService_entry, if_neg fun here => other (by rw [channel, here])]
    rfl

/-- R39: the stream of a port after the write, where its service is not the alert channel's new entry. -/
theorem State.decideChannel_streamTrue {s : State} {c : Channel} (e : Option Service) {p : Port} (own : s.streamTrue p = true)
    (other : (s.port p).isAlert = true → s.su.alert.map (·.channel) ≠ some c) : (s.decideChannel c e).streamTrue p = true := by
  refine State.streamTrue_unmigrate ((s.decideChannel_decided c e).streamTrue (fun none => ?_) fun home st d n moved old _ => ?_)
  · have off := State.onChannel_not none
    have port : (s.storeService c e).port p = s.port p := rfl
    unfold State.streamTrue at own ⊢
    rw [port]
    cases old : s.port p with
    | off => rfl
    | blanked => rfl
    | active v home stream d n =>
      rw [old] at own
      simp only [beq_iff_eq] at own ⊢
      rw [own, State.storeService_resolve]
      cases v with
      | alert => exact other (by rw [old]; rfl)
      | playing =>
        rintro here
        obtain rfl := Option.some.inj here
        simp [State.onChannel, old, PortRecord.home, PortRecord.isAlert] at off
      | preview =>
        rintro here
        obtain rfl := Option.some.inj here
        simp [State.onChannel, old, PortRecord.home, PortRecord.isAlert] at off
  · simp [State.onChannel, old, PortRecord.isAlert] at moved

theorem State.restreamed_true {s t : State} {p : Port} (port : t.port p = s.restreamed (s.port p))
    (same : ∀ v home, t.resolve v home = s.resolve v home) : t.streamTrue p = true := by
  unfold State.streamTrue
  rw [port]
  cases s.port p with
  | off => rfl
  | blanked => rfl
  | active v home stream d n => simp [State.restreamed, same]

/-- R39: the ports in ALERT take their streams from the alert channel's new entry. -/
theorem State.restreamAlerts_keeps {s t : State} (store : s.ks.StoreLaw → t.ks.StoreLaw) (port : s.PortLaw → t.PortLaw)
    (stream : s.StreamLaw → ∀ p, (t.port p).isAlert = false → t.streamTrue p = true) :
    s.Keeps t.restreamAlerts.migrate := by
  have frame := t.restreamAlerts_ports
  have record := t.restreamAlerts_port
  have previews := t.restreamAlerts_previews
  generalize t.restreamAlerts = r at frame record previews
  refine .then_migrate (fun law => by rw [frame.ks]; exact store law) (fun law p => ?_) fun _ own p => ?_
  · refine frame.portLawful previews ?_ (port law p)
    rw [record]
    split
    · exact State.restreamed_shows _ _
    · exact PortRecord.shows_self _
  · by_cases now : (t.port p).isAlert = true
    · exact State.restreamed_true (by rw [record, if_pos now]) frame.resolve
    · rw [frame.streamTrue (by rw [record, if_neg now])]
      exact stream own p (by simpa using now)

theorem State.writeService_keeps (s : State) (c : Channel) (e : Option Service) : s.Keeps (s.writeService c e) := by
  have frame := s.decideChannel_frame c e
  have ks : (s.decideChannel c e).ks = s.ks := frame.ks
  have alert : (s.decideChannel c e).su.alert = s.su.alert := congrArg StayUnit.alert frame.su
  have law : s.PortLaw → (s.decideChannel c e).PortLaw := State.decideChannel_portLaw c e
  have stays : ∀ p, (s.port p).isAlert = true → (s.decideChannel c e).port p = s.port p := fun p was =>
    State.decideChannel_port e (by simp [State.onChannel, was])
  have streams : ∀ p, s.streamTrue p = true → ((s.port p).isAlert = true → s.su.alert.map (·.channel) ≠ some c) →
      (s.decideChannel c e).streamTrue p = true := fun p => State.decideChannel_streamTrue e
  rw [State.writeService_eq]
  generalize s.decideChannel c e = t at ks alert law stays streams
  split
  · refine State.restreamAlerts_keeps (fun h => by rw [ks]; exact h) law fun own p now => streams p (own p) fun was => ?_
    rw [stays p was, was] at now
    cases now
  · next other =>
    refine .then_migrate (fun h => by rw [ks]; exact h) law fun _ own p => streams p (own p) fun _ here => other ?_
    rw [alert, Option.any_eq_true]
    obtain ⟨a, some, channel⟩ := Option.map_eq_some_iff.mp here
    exact ⟨a, some, by simpa using channel⟩

/-! ## Price and remap writes (R24, R42, R43) -/

theorem State.writeRemap_keeps (s : State) (i : Fin 8) (e : Option RemapEntry) : s.Keeps (s.writeRemap i e) := by
  unfold State.writeRemap
  generalize stored : ({ s with sf := { s.sf with remap := s.sf.remap.set i e } } : State) = t
  have law : s.PortLaw → t.PortLaw := fun law => by subst stored; exact law
  have ks : t.ks = s.ks := by subst stored; rfl
  have group : ∀ p, t.serviceGroup p = s.serviceGroup p := fun p => by subst stored; rfl
  clear stored
  have frame := t.restreamAll_ports
  have port := t.restreamAll_port
  have previews := t.restreamAll_previews
  have shows : ∀ p, (t.port p).shows (t.restreamAll.port p) := fun p => by
    rw [port]
    exact State.restreamed_shows _ _
  generalize t.restreamAll = r at frame port previews shows
  refine ⟨fun h => by rw [frame.ks, ks]; exact h, fun h p => frame.portLawful previews (shows p) (law h p), fun _ _ p =>
    State.restreamed_true (port p) frame.resolve, fun _ h => ?_⟩
  refine h.congr (fun p => ?_) (by rw [frame.ks, ks]) fun i => by rw [frame.ks, ks]; exact ⟨rfl, rfl⟩
  rw [← group]
  refine State.serviceGroup_of_screen ?_ (by rw [frame.tm]) (by rw [frame.su])
  rw [port]
  cases t.port p <;> simp [State.restreamed, PortRecord.shows]

theorem State.writePrice_quiet (s : State) (k : PriceCode) (e : Option PriceEntry) : Quiet s (s.writePrice k e) := {}

theorem State.writeEntry_keeps (s : State) (u : Unit96) (t : Table) (i index : Nat) : s.Keeps (s.writeEntry u t i index) := by
  unfold State.writeEntry
  cases t with
  | service => exact s.writeService_keeps (channelOf index) (serviceEntry u (Table.service.entryAt i))
  | price => exact (s.writePrice_quiet (Fin.ofNat 32 index) (priceEntry u (Table.price.entryAt i))).keeps
  | remap => exact s.writeRemap_keeps (Fin.ofNat 8 index) (remapEntry u (Table.remap.entryAt i))

theorem State.burst_quiet (s : State) (b : Option Burst) : Quiet s { s with md := { s.md with burst := b } } := {}

theorem State.dropEntry_quiet (s : State) : Quiet s s.dropEntry := by
  unfold State.dropEntry
  exact {}

theorem State.takeEntry_keeps (s : State) (u : Unit96) (t : Table) (i : Nat) : s.Keeps (State.takeEntry u t s i) := by
  unfold State.takeEntry
  split
  · exact s.dropEntry_quiet.keeps
  · next b _ =>
    have wrote := s.writeEntry_keeps u t i b.pointer
    dsimp only
    generalize s.writeEntry u t i b.pointer = m at wrote
    exact wrote.trans (m.burst_quiet b.advance).keeps

end Sys2Proof.Machine
end

section
/-! The laws of the ports and of the key store through an accepted BUY, a KEY_LOAD and the due events, and so through every
step: O57, O58 and O59. -/

namespace Sys2Proof.Machine

/-! ## An accepted BUY (R130) -/

theorem State.takeUpPreview_port (s : State) (title n : Nat) (p : Port) : (s.takeUpPreview title n).port p = s.port p := by
  unfold State.takeUpPreview
  split <;> rfl

/-- R96, R98: a title that is being previewed keeps its record when a preview is taken up. -/
theorem State.takeUpPreview_record (s : State) (title n : Nat) {x : Nat} (shown : s.isPreviewed x = true)
    (had : s.pc.previews.any (·.title == x) = true) : (s.takeUpPreview title n).pc.previews.any (·.title == x) = true := by
  obtain ⟨r, m, own⟩ := any_title.mp had
  unfold State.takeUpPreview
  split
  · refine any_title.mpr ⟨_, List.mem_map_of_mem m, ?_⟩
    split <;> exact own
  · have kept : ∀ y : Preview, y.title = title → r ∈ (s.joinPreview y).pc.previews := fun y _ => by
      unfold State.joinPreview
      dsimp only
      split
      · exact List.mem_append_left _ ((List.mem_eraseP_of_neg (by simp [own, shown])).mpr m)
      · exact List.mem_append_left _ m
    exact any_title.mpr ⟨r, kept _ rfl, own⟩

/-- R130, steps 1 to 3, before the preview is taken up. -/
def State.billBuy (s : State) (e : Purchase) : State :=
  (({ s with pu := { s.pu with purchases := s.pu.purchases ++ [e] } } : State).raiseSpend e.charge).bill e .purchase e.charge
    s.su.clock

theorem State.recordBuy_eq (s : State) (e : Purchase) (n : Nat) : s.recordBuy e n =
    { (s.billBuy e).takeUpPreview e.title n with
      pu := { purchases := s.pu.purchases ++ [e], silentCount := s.pu.silentCount + if s.su.silent then 1 else 0 } } := by
  have pu : ((s.billBuy e).takeUpPreview e.title n).pu = { s.pu with purchases := s.pu.purchases ++ [e] } := by
    rw [State.takeUpPreview_pu]
    rfl
  have unfolded : s.recordBuy e n = if s.su.silent then { (s.billBuy e).takeUpPreview e.title n with
      pu := { ((s.billBuy e).takeUpPreview e.title n).pu with
        silentCount := ((s.billBuy e).takeUpPreview e.title n).pu.silentCount + 1 } }
      else (s.billBuy e).takeUpPreview e.title n := rfl
  rw [unfolded]
  generalize (s.billBuy e).takeUpPreview e.title n = t at pu
  split
  · rw [pu]
  · rw [Nat.add_zero, ← pu]

theorem State.recordBuy_su (s : State) (e : Purchase) (n : Nat) :
    (s.recordBuy e n).su = { s.su with spend := s.su.spend + e.charge } := by
  rw [State.recordBuy_eq]
  exact State.takeUpPreview_su _ _ _

theorem State.recordBuy_pu (s : State) (e : Purchase) (n : Nat) : (s.recordBuy e n).pu =
    { purchases := s.pu.purchases ++ [e], silentCount := s.pu.silentCount + if s.su.silent then 1 else 0 } := by
  rw [State.recordBuy_eq]

theorem State.recordBuy_tm (s : State) (e : Purchase) (n : Nat) : (s.recordBuy e n).tm = s.tm := by
  rw [State.recordBuy_eq]
  exact State.takeUpPreview_tm _ _ _

theorem State.recordBuy_sf (s : State) (e : Purchase) (n : Nat) : (s.recordBuy e n).sf = s.sf := by
  rw [State.recordBuy_eq]
  exact State.takeUpPreview_sf _ _ _

theorem State.recordBuy_lu (s : State) (e : Purchase) (n : Nat) : (s.recordBuy e n).lu = s.lu := by
  rw [State.recordBuy_eq]
  exact State.takeUpPreview_lu _ _ _

theorem State.recordBuy_pc (s : State) (e : Purchase) (n : Nat) :
    (s.recordBuy e n).pc = ((s.billBuy e).takeUpPreview e.title n).pc := by
  rw [State.recordBuy_eq]

theorem State.recordBuy_port (s : State) (e : Purchase) (n : Nat) (p : Port) : (s.recordBuy e n).port p = s.port p := by
  rw [State.port, State.recordBuy_pc]
  exact State.takeUpPreview_port _ _ _ _

/-- R83: an accepted BUY's channel is PRESENT. -/
theorem State.tuneDecision_present {s : State} {c : Channel} {e : Service} (entry : s.entry c = some e) (p : Port) :
    s.tuneDecision p c ≠ .absent := by
  have film : ∀ title k, s.filmDecision title k ≠ .absent := by
    intro title k
    unfold State.filmDecision
    dsimp only
    split_ifs <;> simp
  have tier : ∀ t, s.tierDecision t ≠ .absent := by
    intro t
    cases t with
    | house => simp [State.tierDecision]
    | free => simp [State.tierDecision]
    | package n => simp only [State.tierDecision]; split <;> simp
    | film title k => exact film title k
  unfold State.tuneDecision
  rw [entry]
  split
  · simp
  · dsimp only
    split_ifs <;> simp [tier]

theorem State.recordBuy_present {s : State} {c : Channel} {x : Service} (found : s.entry c = some x) (e : Purchase) (n : Nat)
    (p : Port) : (s.recordBuy e n).tuneDecision p c ≠ .absent := by
  refine State.tuneDecision_present (e := x) ?_ p
  simp only [State.entry, State.recordBuy_tm]
  exact found

theorem State.recordBuy_purchase (s : State) {e : Purchase} (n : Nat) {x : Nat} (other : x ≠ e.title) :
    (s.recordBuy e n).purchase x = s.purchase x := by
  have apart : (e.title == x) = false := by simpa using Ne.symm other
  simp only [State.purchase, State.recordBuy_pu, List.find?_append, List.find?_cons, apart]
  simp

/-- R130: the laws through the entry of a purchase and the playing of its title, by what the entry leaves. -/
theorem State.playTitle_keeps {s r : State} {p : Port} {c : Channel} {title : Nat} (acts : Acts s (r.playTitle s p c title))
    (port : ∀ q, r.port q = s.port q) (su : r.su = { s.su with spend := r.su.spend }) (tm : r.tm = s.tm) (sf : r.sf = s.sf)
    (lu : r.lu = s.lu) (present : r.tuneDecision p c ≠ .absent) (other : ∀ x, x ≠ title → r.purchase x = s.purchase x)
    (record : ∀ q x, s.previewing q = some x → s.pc.previews.any (·.title == x) = true →
      r.pc.previews.any (·.title == x) = true) : s.Keeps (r.playTitle s p c title) := by
  refine (State.playTitle_decided (before := s) (title := title) port tm present).keeps_some acts port (by rw [su]) tm (by rw [sf])
    (fun q _ _ => ⟨by rw [su], by simp only [State.isOccupied]; rw [su], by rw [su], by rw [su], by rw [su],
      by simp only [State.effectiveCeiling, lu]⟩) (fun q x own none home titled => ?_) record
  have away : s.homesWith title q = Option.none := by
    by_cases here : q = p
    · rw [if_pos here] at none
      cases none
    · rwa [if_neg here] at none
  rw [other _ (State.homesWith_none away home titled)]

theorem State.acceptBuy_keeps (s : State) (p : Port) (c : Channel) (passes : s.buyRefusal p c = none) :
    s.Keeps (s.acceptBuy p c) := by
  have acts := s.acceptBuy_acts p c passes
  obtain ⟨e, title, k, entry, -, found, -, film, -, -, -, -, -, price, -⟩ := State.buyRefusal_none passes
  rw [State.acceptBuy_eq found film price] at acts ⊢
  refine State.playTitle_keeps acts (State.recordBuy_port s _ _) ?_ (State.recordBuy_tm s _ _) (State.recordBuy_sf s _ _)
    (State.recordBuy_lu s _ _) (State.recordBuy_present found _ _ p) (fun x other => s.recordBuy_purchase _ other)
    fun q x shown had => ?_
  · rw [State.recordBuy_su]
  · rw [State.recordBuy_pc]
    have shown' : (s.billBuy (s.newPurchase title k e.rating entry)).previewing q = some x := shown
    exact State.takeUpPreview_record _ _ _ (List.any_eq_true.mpr ⟨q, mem_allPorts q, by simp [shown']⟩) had

/-! ## A KEY_LOAD (R58 to R62) -/

theorem State.refuse_quiet (s : State) (u : Unit96) (r : RefusalReason) : Quiet s (s.refuse u r) := {}

theorem State.loadKey_keeps (s : State) (g : Nat) (ph : KeyPhase) (k : PhaseKey) (u : Unit96) (held : g ≤ 1022) :
    s.Keeps (s.loadKey g ph k u) := by
  unfold State.loadKey
  split
  · exact (s.refuse_quiet u .expired).keeps
  · exact .keys (State.placeKey_storeLaw ph k held) fun _ => State.placeKey_slotLaw g ph k

/-! ## Due events (R10) -/

theorem State.endLockout_quiet (s : State) (due : Nat) : Quiet s (s.endLockout due) := {}

theorem State.endStrict_quiet (s : State) : Quiet s s.endStrict := {}

theorem State.takeDue_keeps (s : State) (due : Nat) (d : DueEvent) : s.Keeps (s.takeDue due d) := by
  unfold State.takeDue
  cases d with
  | keyPhase g ph => exact s.expireKey_keeps g ph
  | unlock p => exact s.endUnlock_keeps p
  | lockout => exact (s.endLockout_quiet due).keeps
  | strict => exact s.endStrict_quiet.keeps
  | window title =>
    dsimp only
    split
    · next e bought => exact s.endWindow_keeps e due (by rw [State.purchase_title bought]; exact bought)
    · exact .refl s
  | alert => exact s.endAlert_keeps

theorem State.takeNext_keeps (s : State) : s.Keeps s.takeNext := by
  obtain ⟨-, same⟩ | ⟨d, c, -, -, took⟩ := s.takeNext_cases
  · rw [same]
    exact .refl s
  · rw [took]
    exact (s.choices_quiet c).keeps.trans (State.takeDue_keeps { s with choices := c } d.1 d.2)

theorem State.takeDueUpTo_keeps : ∀ (n : Nat) (s : State), s.Keeps (State.takeDueUpTo n s)
  | 0, s => .refl s
  | n + 1, s => s.takeNext_keeps.trans (State.takeDueUpTo_keeps n s.takeNext)

theorem State.settleDue_keeps (s : State) : s.Keeps s.settleDue := State.takeDueUpTo_keeps (s.dueEvents.length + 1) s

theorem State.settleHeld_keeps (s : State) : s.Keeps s.settleHeld := by
  unfold State.settleHeld
  split
  · exact s.settleDue_keeps
  · exact .refl s

/-- A local second, by the due events that come before its accruals. -/
theorem State.second_cases (s : State) (t : State) (ticked : t = { s with su := s.su.tickClock.countSilence }) :
    (t.dueNow = [] ∧ s.second = t.accrue) ∨ ∃ (k : Nat) (c : Choices),
      s.second = ((({ t with choices := c } : State).takeDueUpTo k).accrue).settleDue := by
  subst ticked
  unfold State.second
  dsimp only
  split
  · next none => exact .inl ⟨none, rfl⟩
  · exact .inr ⟨_, _, rfl⟩

theorem State.second_keeps (s : State) : s.Keeps s.second := by
  have tick := s.tick_quiet.keeps
  generalize ticked : ({ s with su := s.su.tickClock.countSilence } : State) = t at tick
  obtain ⟨-, same⟩ | ⟨k, c, eq⟩ := s.second_cases t ticked.symm
  · rw [same]
    exact tick.trans t.accrue_keeps
  · rw [eq]
    exact (((tick.trans (t.choices_quiet c).keeps).trans (State.takeDueUpTo_keeps k { t with choices := c })).trans
      (State.accrue_keeps _)).trans (State.settleDue_keeps _)

theorem State.setClock_quiet (s : State) (t : Nat) : Quiet s { s with su := { s.su with clock := t } } := {}

theorem State.ignoreMark_quiet (s : State) : Quiet s { s with su := { s.su with marksIgnored := raiseCounter s.su.marksIgnored } } :=
  {}

theorem State.breakSilence_quiet (s : State) : Quiet s s.breakSilence where
  bought title := by
    unfold State.breakSilence State.purchase
    split <;> rfl

theorem State.mark_keeps (s : State) (t : Nat) : s.Keeps (s.mark t) := by
  unfold State.mark
  split
  · exact ((s.setClock_quiet t).keeps.trans (State.settleDue_keeps _)).trans (State.breakSilence_quiet _).keeps
  · exact s.ignoreMark_quiet.keeps.trans (State.breakSilence_quiet _).keeps

/-! ## Every event -/

theorem Event.keeps {s t : State} (h : Event s t) : s.Keeps t := by
  cases h with
  | deliver u => exact (s.deliver_quiet u).keeps
  | countFault => exact Quiet.keeps {}
  | failCheck u => exact Quiet.keeps {}
  | refuse u r => exact (s.refuse_quiet u r).keeps
  | closeBurst => exact (s.burst_quiet none).keeps
  | openBurst u t => exact (s.openBurst_quiet u t).keeps
  | takeEntry u t i => exact s.takeEntry_keeps u t i
  | mark t => exact s.mark_keeps t
  | loadKey group phase k u held => exact s.loadKey_keeps group phase k u held
  | purge group => exact .migrated fun law => law.purge group
  | clearKeys => exact s.clearKeys_keeps
  | openStay u closed => exact s.openStay_keeps u closed
  | closeStay => exact s.closeStay_keeps
  | settings u => exact s.applySettings_keeps u
  | setCeiling value range => exact s.setCeiling_keeps value range
  | endUnlocks => exact s.endUnlocks_keeps
  | clearPin => exact Quiet.keeps {}
  | cutLockout => exact Quiet.keeps {}
  | freeze frozen => exact Quiet.keeps {}
  | orderAlert channel seconds => exact (s.orderAlert_keeps _).trans (State.settleHeld_keeps _)
  | endAlert => exact s.endAlert_keeps
  | handReturn r => exact (s.handReturn_quiet r).keeps
  | endReturn => exact s.endReturn_quiet.keeps
  | release n => exact (s.releaseTo_quiet n).keeps
  | resetRoom => exact s.resetRoom_keeps
  | second => exact s.second_keeps
  | silent => exact Quiet.keeps {}
  | expireKey group phase => exact s.expireKey_keeps group phase
  | endUnlock p => exact s.endUnlock_keeps p
  | endLockout due locked => exact (s.endLockout_quiet due).keeps.trans (State.settleHeld_keeps _)
  | endStrict => exact s.endStrict_quiet.keeps
  | endWindow e bought => exact s.endWindow_keeps e _ bought
  | expireSignal p => exact (s.expireSignal_quiet p).keeps
  | expireCadence p => exact (s.expireCadence_quiet p).keeps
  | millisecond => exact s.millisecond_quiet.keeps
  | sends l quiet => exact Quiet.keeps {}
  | tune p c => exact s.tune_keeps p c
  | off p => exact s.turnOff_keeps p
  | void e bought => exact s.voidPurchase_keeps e bought
  | forgive unlocked => exact Quiet.keeps {}
  | storePin pin occupied unlocked long short digits => exact Quiet.keeps {}
  | linkOff => exact s.linkOff_keeps

theorem Registers.keeps {s t : State} (h : Registers s t) : s.Keeps t := by
  cases h with
  | unlock p seconds positive unlocked => exact s.unlockPort_keeps p seconds unlocked
  | wrongPin pin unlocked => exact s.wrongPin_keeps pin unlocked
  | buy p c passes => exact s.acceptBuy_keeps p c passes

/-! ## Every step -/

theorem Events.keep {P : State → Prop} (event : ∀ s t, Event s t → P s → P t) {s t : State} (h : Events s t) (p : P s) :
    P t := by
  induction h with
  | refl => exact p
  | tail _ step ih => exact event _ _ step ih

/-- A property that every event keeps, that holds again once what a request has registered is settled (`Q` holds until then),
that reads nothing of RL, of the choices and of the queue, and that power-on reset sets up, is kept by every step. -/
theorem step_keeps_events {P Q : State → Prop} (event : ∀ s t, Event s t → P s → P t)
    (registers : ∀ s t, Registers s t → P s → Q t) (settle : ∀ s, Q s → P s.settleHeld)
    (blind : ∀ (s : State) (rl : RoomLink) (c : Choices) (q : List Instr),
      P s → P { s with rl := rl, choices := c, pending := q })
    (blindQ : ∀ (s : State) (rl : RoomLink), Q s → Q { s with rl := rl })
    (reset : ∀ (s : State) (strap : BitVec 14), P (s.powerOn strap)) {s t : State} (h : step s = .next t) (p : P s) : P t := by
  have relinked : ∀ {x y : State}, Relinked x y → P x → P y := fun {x y} link px => by
    rw [link.state]; exact blind x _ _ x.pending px
  have answered : ∀ {x y : State}, Answered x y → P x → P y := by
    intro x y hxy px
    cases hxy with
    | @plain m r events link => exact relinked link (blind m _ _ _ (events.keep event px))
    | @settled m r regs link => exact relinked link (settle _ (blindQ m _ (registers _ _ regs px)))
  obtain ⟨queue, shape⟩ := step_shape h
  have p' := blind s s.rl s.choices queue p
  cases shape with
  | powerOn strap => exact reset _ strap
  | events events link => exact relinked link (events.keep event p')
  | heldBack u full => exact blind s _ _ queue p
  | answered room hxy => exact answered hxy (blind s _ _ queue p)
  | idle empty => exact blind s _ _ queue p
  | left u us waits keeps => exact blind s _ _ queue p
  | took u us waits held room hxy => exact answered hxy (blind s _ _ queue p)

/-- A law that `State.Keeps` carries. -/
theorem step_keeps_law {P : State → Prop} (keeps : ∀ s t, s.Keeps t → P s → P t)
    (blind : ∀ (s : State) (rl : RoomLink) (c : Choices) (q : List Instr),
      P s → P { s with rl := rl, choices := c, pending := q })
    (reset : ∀ (s : State) (strap : BitVec 14), P (s.powerOn strap)) {s t : State} (h : step s = .next t) (p : P s) : P t :=
  step_keeps_events (fun s t event => keeps s t event.keeps) (fun s t regs => keeps s t regs.keeps)
    (fun s => keeps s s.settleHeld s.settleHeld_keeps) blind (fun s rl => blind s rl s.choices s.pending) reset h p

theorem State.powerOn_off (s : State) (strap : BitVec 14) (p : Port) : (s.powerOn strap).port p = .off := by
  simp [State.powerOn, State.port, State.reset]

theorem State.powerOn_slot (s : State) (strap : BitVec 14) : (s.powerOn strap).ks.slot = none := rfl

theorem State.powerOn_storeLaw (s : State) (strap : BitVec 14) : (s.powerOn strap).ks.StoreLaw := State.reset.ks.clear_storeLaw

/-- Settles O57: R88's laws are kept event by event (`Event.keeps`), and R96's bounds write by write. -/
theorem stepsKeepThePorts : Obligations.StepsKeepThePorts := by
  intro s t h
  refine ⟨?_, ?_⟩
  · exact step_keeps_law (P := State.PortLaw) (fun _ _ keeps => keeps.port) (fun _ _ _ _ => id)
      (fun s strap => (State.PortLaw.of_off (s.powerOn_off strap)).1) h
  · exact step_keeps (P := State.PreviewLaw) (fun _ _ => Act.keeps_previewLaw) (fun _ _ _ _ => id)
      (fun _ _ => ⟨Nat.zero_le _, List.nodup_nil⟩) h

/-- Settles O58: the streams are kept with R88's laws event by event (`Event.keeps`), and the timers write by write. -/
theorem stepsKeepStreamsAndTimers : Obligations.StepsKeepStreamsAndTimers := by
  intro s t h
  refine ⟨fun port stream => ?_, ?_⟩
  · exact (step_keeps_law (P := fun s => s.PortLaw ∧ s.StreamLaw)
      (fun _ _ keeps law => ⟨keeps.port law.1, keeps.stream law.1 law.2⟩) (fun _ _ _ _ => id)
      (fun s strap => State.PortLaw.of_off (s.powerOn_off strap)) h ⟨port, stream⟩).2
  · exact step_keeps (P := State.TimerLaw) (fun _ _ => Act.keeps_timerLaw) (fun _ _ _ _ => id)
      (fun s strap p => by rw [s.powerOn_off strap p]; rfl) h

/-- Settles O59: the places of the key store are kept write by write, and R63's law of the slot event by event
(`Event.keeps`), since it is the migration at an event's end that restores it. -/
theorem stepsKeepTheKeyStore : Obligations.StepsKeepTheKeyStore := by
  intro s t h store
  refine ⟨?_, fun slot => ?_⟩
  · exact step_keeps_law (P := fun s => s.ks.StoreLaw) (fun _ _ keeps => keeps.store) (fun _ _ _ _ => id)
      State.powerOn_storeLaw h store
  · exact (step_keeps_law (P := fun s => s.ks.StoreLaw ∧ s.SlotLaw)
      (fun _ _ keeps law => ⟨keeps.store law.1, keeps.slot law.1 law.2⟩) (fun _ _ _ _ => id)
      (fun s strap => ⟨s.powerOn_storeLaw strap, fun e held => absurd held (by simp [s.powerOn_slot strap])⟩) h ⟨store, slot⟩).2

end Sys2Proof.Machine
end

section
/-! Which events are registered (R10): what an event leaves of them, and that settling takes every one that is due. -/

namespace Sys2Proof.Machine

/-! ## The entries of the key store, place by place -/

theorem KeyStore.mem_entries {ks : KeyStore} {x : KeyEntry} : x ∈ ks.entries ↔ ∃ g place, ks.at g place = some x := by
  simp only [KeyStore.entries, List.mem_append, List.mem_flatMap, Option.mem_toList, Vector.mem_toList_iff]
  constructor
  · rintro (⟨st, m, ways⟩ | slot)
    · obtain ⟨i, hi, rfl⟩ := Vector.mem_iff_getElem.mp m
      have set : ks.sets[setOf i] = ks.sets[i] := by
        have : setOf i = ⟨i, hi⟩ := setOf_val ⟨i, hi⟩
        simp only [this, Fin.getElem_fin]
      rcases ways with h | h
      · exact ⟨i, .way .way0, by rw [KeyStore.at_way, set]; exact h⟩
      · exact ⟨i, .way .way1, by rw [KeyStore.at_way, set]; exact h⟩
    · exact ⟨0, .slot, slot⟩
  · rintro ⟨g, (_ | _) | _, h⟩
    · exact .inl ⟨_, Vector.getElem_mem _, .inl h⟩
    · exact .inl ⟨_, Vector.getElem_mem _, .inr h⟩
    · exact .inr h

/-- R57: an expiry that the key store holds. -/
def KeyStore.Expires (ks : KeyStore) (g : Nat) (ph : KeyPhase) (due : Nat) : Prop :=
  ∃ x ∈ ks.entries, x.group = g ∧ ∃ k, x.phase ph = some k ∧ k.expiry ≠ 0 ∧ k.expiry = due

theorem KeyStore.Expires.mono {a b : KeyStore} (entries : ∀ x ∈ b.entries, x ∈ a.entries) {g : Nat} {ph : KeyPhase} {due : Nat}
    (h : b.Expires g ph due) : a.Expires g ph due := by
  obtain ⟨x, m, expires⟩ := h
  exact ⟨x, entries x m, expires⟩

theorem KeyStore.mem_entries_put {ks : KeyStore} {g : Nat} {e : Option KeyEntry} {place : Place} {x : KeyEntry}
    (m : x ∈ (ks.put g e place).entries) : x ∈ ks.entries ∨ e = some x := by
  obtain ⟨g', place', h⟩ := KeyStore.mem_entries.mp m
  rw [KeyStore.at_put] at h
  split at h
  · exact .inr h
  · exact .inl (KeyStore.mem_entries.mpr ⟨g', place', h⟩)

theorem KeyStore.mem_entries_mark {ks : KeyStore} {g : Nat} {w : Way} {x : KeyEntry} :
    x ∈ (ks.mark g w).entries ↔ x ∈ ks.entries := by
  simp only [KeyStore.mem_entries, KeyStore.at_mark]

theorem KeyStore.mem_entries_emptySlot {ks : KeyStore} {x : KeyEntry} (m : x ∈ ({ ks with slot := none } : KeyStore).entries) :
    x ∈ ks.entries := by
  have : ({ ks with slot := none } : KeyStore) = ks.put 0 none .slot := rfl
  rw [this] at m
  exact (KeyStore.mem_entries_put m).resolve_right (by simp)

theorem KeyStore.mem_entries_placeInWay {ks : KeyStore} {e x : KeyEntry} {w : Way} (m : x ∈ (ks.placeInWay e w).entries) :
    x ∈ ks.entries ∨ x = e := by
  rw [KeyStore.placeInWay, KeyStore.mem_entries_mark] at m
  exact (KeyStore.mem_entries_put m).imp_right fun h => (Option.some.inj h).symm

theorem State.migrate_entries {s : State} {x : KeyEntry} (m : x ∈ s.migrate.ks.entries) : x ∈ s.ks.entries := by
  unfold State.migrate at m
  split at m
  · exact m
  · next e slot =>
    have held : e ∈ s.ks.entries := KeyStore.mem_entries.mpr ⟨0, .slot, slot⟩
    have moved : ∀ w, x ∈ ({ s.ks.placeInWay e w with slot := none } : KeyStore).entries → x ∈ s.ks.entries := by
      intro w m
      rcases KeyStore.mem_entries_placeInWay (KeyStore.mem_entries_emptySlot m) with h | rfl
      · exact h
      · exact held
    dsimp only at m
    split at m
    · exact moved _ m
    · exact moved _ m
    · exact m

theorem KeyStore.lookupMark_entries {ks : KeyStore} {g : Nat} {x : KeyEntry} (m : x ∈ (ks.lookupMark g).entries) :
    x ∈ ks.entries := by
  unfold KeyStore.lookupMark at m
  split at m
  · exact KeyStore.mem_entries_mark.mp m
  · exact m

theorem KeyStore.purge_entries {ks : KeyStore} {g : Nat} {x : KeyEntry} (m : x ∈ (ks.purge g).entries) : x ∈ ks.entries := by
  unfold KeyStore.purge at m
  split at m
  · exact m
  · exact (KeyStore.mem_entries_put m).resolve_right (by simp)

theorem KeyStore.clear_entries (ks : KeyStore) : ks.clear.entries = [] := by
  refine List.eq_nil_iff_forall_not_mem.mpr fun x m => ?_
  obtain ⟨g, (_ | _) | _, h⟩ := KeyStore.mem_entries.mp m <;>
    simp [KeyStore.clear, KeyStore.at, KeySet.way, KeySet.empty] at h

/-- R57: the expiries of an entry with one phase replaced. -/
theorem KeyEntry.phase_setPhase (e : KeyEntry) (k : Option PhaseKey) (ph ph' : KeyPhase) :
    (e.setPhase k ph).phase ph' = if ph' = ph then k else e.phase ph' := by
  cases ph <;> cases ph' <;> rfl

theorem KeyEntry.orFree_some {e x : KeyEntry} (h : e.orFree = some x) : x = e := by
  unfold KeyEntry.orFree at h
  split at h
  · cases h
  · exact (Option.some.inj h).symm

/-- R57: a phase dropped is no more held, and every other expiry was held. -/
theorem KeyStore.dropPhase_expires {ks : KeyStore} {g g' : Nat} {ph ph' : KeyPhase} {due : Nat}
    (h : (ks.dropPhase g ph).Expires g' ph' due) : ks.Expires g' ph' due := by
  obtain ⟨x, m, group, k, phase, expiry⟩ := h
  unfold KeyStore.dropPhase at m
  split at m
  · exact ⟨x, m, group, k, phase, expiry⟩
  · next place found =>
    rcases KeyStore.mem_entries_put m with old | new
    · exact ⟨x, old, group, k, phase, expiry⟩
    · obtain ⟨y, there, own⟩ := Option.bind_eq_some_iff.mp new
      obtain rfl := KeyEntry.orFree_some own
      rw [KeyEntry.phase_setPhase] at phase
      split at phase
      · cases phase
      · exact ⟨y, KeyStore.mem_entries.mpr ⟨g, place, there⟩, by rw [← group, KeyEntry.setPhase_group], k, phase, expiry⟩

/-- R53: while the store is lawful a dropped phase is held nowhere. -/
theorem KeyStore.StoreLaw.dropPhase_not_expires {ks : KeyStore} (law : ks.StoreLaw) (g : Nat) (ph : KeyPhase) (due : Nat) :
    ¬ (ks.dropPhase g ph).Expires g ph due := by
  rintro ⟨x, m, group, k, phase, -⟩
  have home := (ks.storeLaw_iff.mp law).1
  have here : ∀ g' place, ks.at g' place = some x → ks.at g place = some x ∧ (place ≠ .slot → setOf g' = setOf g) := by
    intro g' place there
    rcases place with w | _
    · have set := (home g' (.way w) x there).2 (by simp)
      rw [group] at set
      refine ⟨?_, fun _ => set.symm⟩
      rw [KeyStore.at_way] at there ⊢
      simp only [set]
      exact there
    · exact ⟨there, fun other => absurd rfl other⟩
  unfold KeyStore.dropPhase at m
  split at m
  · next missed =>
    obtain ⟨g', place, there⟩ := KeyStore.mem_entries.mp m
    exact KeyStore.locate_none missed place (here g' place there).1 group
  · next place found =>
    obtain ⟨g', place', there⟩ := KeyStore.mem_entries.mp m
    rw [KeyStore.at_put] at there
    split at there
    · obtain ⟨y, -, own⟩ := Option.bind_eq_some_iff.mp there
      obtain rfl := KeyEntry.orFree_some own
      rw [KeyEntry.phase_setPhase, if_pos rfl] at phase
      cases phase
    · next other =>
      obtain ⟨there, set⟩ := here g' place' there
      by_cases same : place' = place
      · refine other ⟨same, ?_⟩
        cases place with
        | slot => exact .inl rfl
        | way w => exact .inr (set (by simp [same]))
      · exact law.located found place' x same there group

/-- R59 to R62: a load holds no expiry beside its own and those that were held. -/
theorem State.placeKey_expires {s : State} {g g' : Nat} {ph ph' : KeyPhase} {k : PhaseKey} {due : Nat}
    (h : (s.placeKey g ph k).Expires g' ph' due) : s.ks.Expires g' ph' due ∨ (k.expiry ≠ 0 ∧ due = k.expiry) := by
  obtain ⟨x, m, group, k', phase, zero, expiry⟩ := h
  have held : ∀ y ∈ s.ks.entries, y.group = x.group → x = y.setPhase (some k) ph →
      s.ks.Expires g' ph' due ∨ (k.expiry ≠ 0 ∧ due = k.expiry) := by
    rintro y held same rfl
    rw [KeyEntry.phase_setPhase] at phase
    split at phase
    · obtain rfl := Option.some.inj phase
      exact .inr ⟨zero, expiry.symm⟩
    · exact .inl ⟨y, held, same.trans group, k', phase, zero, expiry⟩
  have fresh : x = KeyEntry.fresh g ph k → s.ks.Expires g' ph' due ∨ (k.expiry ≠ 0 ∧ due = k.expiry) := by
    rintro rfl
    rw [KeyEntry.fresh, KeyEntry.phase_setPhase] at phase
    split at phase
    · obtain rfl := Option.some.inj phase
      exact .inr ⟨zero, expiry.symm⟩
    · cases ph' <;> cases phase
  have old : x ∈ s.ks.entries → s.ks.Expires g' ph' due ∨ (k.expiry ≠ 0 ∧ due = k.expiry) := fun m =>
    .inl ⟨x, m, group, k', phase, zero, expiry⟩
  unfold State.placeKey at m
  dsimp only at m
  split at m
  · next place found =>
    rcases KeyStore.mem_entries_put m with m | new
    · exact old m
    · obtain ⟨y, there, own⟩ := Option.map_eq_some_iff.mp new
      exact held y (KeyStore.mem_entries.mpr ⟨g, place, there⟩) (by rw [← own, KeyEntry.setPhase_group]) own.symm
  · have way : ∀ w, x ∈ (s.ks.placeInWay (KeyEntry.fresh g ph k) w).entries →
        s.ks.Expires g' ph' due ∨ (k.expiry ≠ 0 ∧ due = k.expiry) := fun w m =>
      (KeyStore.mem_entries_placeInWay m).elim old fresh
    split at m
    · exact way _ m
    · exact way _ m
    · have slot : x ∈ (s.ks.put 0 (some (KeyEntry.fresh g ph k)) .slot).entries := by
        split at m <;> exact m
      exact (KeyStore.mem_entries_put slot).elim old fun h => fresh (Option.some.inj h).symm

/-! ## What an event leaves registered -/

/-- `t` has the clock of `s` and registers no event that `s` does not. -/
structure Fewer (s t : State) : Prop where
  clock   : t.su.clock = s.su.clock := by rfl
  keys    : ∀ g ph n, t.ks.Expires g ph n → s.ks.Expires g ph n := by intros; assumption
  unlocks : ∀ (p : Port) n, t.lu.unlocks[p] = some n → s.lu.unlocks[p] = some n := by intros; assumption
  lockout : ∀ n, t.lu.lockout = some n → s.lu.lockout = some n := by intros; assumption
  strict  : ∀ n, t.lu.strict = some n → s.lu.strict = some n := by intros; assumption
  windows : ∀ x ∈ t.pu.purchases, ∃ y ∈ s.pu.purchases, y.title = x.title ∧ y.windowEnd = x.windowEnd := by
    intro x m; exact ⟨x, m, rfl, rfl⟩
  alert   : ∀ a, t.su.alert = some a → s.su.alert = some a := by intros; assumption

theorem Fewer.refl (s : State) : Fewer s s := {}

theorem Fewer.trans {s t u : State} (h : Fewer s t) (k : Fewer t u) : Fewer s u where
  clock := k.clock.trans h.clock
  keys g ph n e := h.keys g ph n (k.keys g ph n e)
  unlocks p n e := h.unlocks p n (k.unlocks p n e)
  lockout n e := h.lockout n (k.lockout n e)
  strict n e := h.strict n (k.strict n e)
  windows x m := by
    obtain ⟨y, m, title, due⟩ := k.windows x m
    obtain ⟨z, m, title', due'⟩ := h.windows y m
    exact ⟨z, m, title'.trans title, due'.trans due⟩
  alert a e := h.alert a (k.alert a e)

theorem Fewer.foldl {α : Type} {f : State → α → State} (one : ∀ s a, Fewer s (f s a)) :
    ∀ (l : List α) (s : State), Fewer s (l.foldl f s)
  | [], s => .refl s
  | a :: l, s => (one s a).trans (Fewer.foldl one l (f s a))

theorem Fewer.registered {s t : State} (h : Fewer s t) {d : Nat × DueEvent} (there : t.Registered d) : s.Registered d := by
  obtain ⟨due, e⟩ := d
  cases e with
  | keyPhase g ph => exact h.keys g ph due there
  | unlock p => exact h.unlocks p due there
  | lockout => exact h.lockout due there
  | strict => exact h.strict due there
  | window title =>
    obtain ⟨x, m, own, ends⟩ := there
    obtain ⟨y, m, title', due'⟩ := h.windows x m
    exact ⟨y, m, title'.trans own, due'.trans ends⟩
  | alert =>
    obtain ⟨a, some, ends⟩ := there
    exact ⟨a, h.alert a some, ends⟩

theorem Fewer.dueLaw {s t : State} (h : Fewer s t) (law : s.DueLaw) : t.DueLaw := by
  refine ⟨by rw [h.clock]; exact law.1, fun d m => ?_⟩
  rw [h.clock]
  exact law.2 d (State.mem_dueEvents.mpr (h.registered (State.mem_dueEvents.mp m)))

theorem PortsFrame.fewer {s t : State} (frame : PortsFrame s t) : Fewer s t where
  clock := by rw [frame.su]
  keys g ph n e := by rw [← frame.ks]; exact e
  unlocks p n e := by rw [← frame.lu]; exact e
  lockout n e := by rw [← frame.lu]; exact e
  strict n e := by rw [← frame.lu]; exact e
  windows x m := by rw [frame.pu] at m; exact ⟨x, m, rfl, rfl⟩
  alert a e := by rw [← frame.su]; exact e

theorem State.migrate_fewer (s : State) : Fewer s s.migrate where
  clock := by rw [State.migrate_su]
  keys g ph n e := e.mono fun _ => State.migrate_entries
  unlocks p n e := by rw [← State.migrate_lu]; exact e
  lockout n e := by rw [← State.migrate_lu]; exact e
  strict n e := by rw [← State.migrate_lu]; exact e
  windows x m := by rw [State.migrate_pu] at m; exact ⟨x, m, rfl, rfl⟩
  alert a e := by rw [← State.migrate_su]; exact e

/-- The end of an event that moves ports. -/
theorem PortsFrame.migrated {s t : State} (frame : PortsFrame s t) : Fewer s t.migrate := frame.fewer.trans t.migrate_fewer

end Sys2Proof.Machine
end

section
/-! Which events each operation leaves registered (R10). -/

namespace Sys2Proof.Machine

/-! ## Operations that register nothing -/

theorem State.treatCopy_fewer (s : State) (p : Port) (u : Unit96) : Fewer s (s.treatCopy p u) := by
  have mark : Fewer s (s.laneMark p u) := by
    unfold State.laneMark
    split
    · exact { keys := fun _ _ _ e => e.mono fun _ => KeyStore.lookupMark_entries }
    · exact .refl s
  unfold State.treatCopy
  dsimp only
  generalize s.laneMark p u = t at mark
  split
  · exact mark.trans (t.copyCleared_ports p u _).fewer
  · exact mark.trans (t.copyMissed_ports p).fewer

theorem State.deliver_fewer (s : State) (u : Unit96) : Fewer s (s.deliver u) := by
  unfold State.deliver
  split
  · exact .refl s
  · exact (s.afterArranging_ports _).fewer.trans (Fewer.foldl (fun t p => t.treatCopy_fewer p u) _ _)

theorem State.refuse_fewer (s : State) (u : Unit96) (r : RefusalReason) : Fewer s (s.refuse u r) := {}

theorem State.burst_fewer (s : State) (b : Option Burst) : Fewer s { s with md := { s.md with burst := b } } := {}

theorem State.openBurst_fewer (s : State) (u : Unit96) (t : Table) : Fewer s (s.openBurst u t) := by
  unfold State.openBurst
  dsimp only
  split
  · exact s.burst_fewer _
  · exact s.refuse_fewer u _

theorem State.storeService_fewer (s : State) (c : Channel) (e : Option Service) : Fewer s (s.storeService c e) := {}

theorem State.writeService_fewer (s : State) (c : Channel) (e : Option Service) : Fewer s (s.writeService c e) := by
  have decided := (s.storeService_fewer c e).trans (s.decideChannel_frame c e).fewer
  rw [State.writeService_eq]
  generalize s.decideChannel c e = t at decided
  split
  · exact decided.trans t.restreamAlerts_ports.migrated
  · exact decided.trans t.migrate_fewer

theorem State.writeEntry_fewer (s : State) (u : Unit96) (t : Table) (i index : Nat) : Fewer s (s.writeEntry u t i index) := by
  unfold State.writeEntry
  cases t with
  | service => exact s.writeService_fewer _ _
  | price => exact (show ∀ k e, Fewer s (s.writePrice k e) from fun k e => {}) _ _
  | remap =>
    have stored : ∀ i e, Fewer s { s with sf := { s.sf with remap := s.sf.remap.set (i : Fin 8) e } } := fun _ _ => {}
    unfold State.writeRemap
    exact (stored _ _).trans (State.restreamAll_ports _).fewer

theorem State.takeEntry_fewer (s : State) (u : Unit96) (t : Table) (i : Nat) : Fewer s (State.takeEntry u t s i) := by
  unfold State.takeEntry
  split
  · exact (show Fewer s s.dropEntry by unfold State.dropEntry; exact {})
  · next b _ =>
    have wrote := s.writeEntry_fewer u t i b.pointer
    dsimp only
    generalize s.writeEntry u t i b.pointer = m at wrote
    exact wrote.trans (m.burst_fewer b.advance)

/-! ## Stay events and the lock -/

/-- R117: no unlock is registered while every one has ended. -/
theorem unlocks_none {v : Vector (Option Nat) 4} (ended : v = Vector.replicate 4 none) (p : Port) (n : Nat) : ¬ v[p] = some n := by
  subst ended
  simp

/-- R4, R124: no lock event is registered once the lock is cleared. -/
theorem Fewer.lockCleared {s t : State} (clock : t.su.clock = s.su.clock) (ks : t.ks = s.ks) (alert : t.su.alert = s.su.alert)
    (windows : ∀ x ∈ t.pu.purchases, x ∈ s.pu.purchases) (unlocks : t.lu.unlocks = Vector.replicate 4 none)
    (lockout : t.lu.lockout = none) (strict : t.lu.strict = none) : Fewer s t where
  clock := clock
  keys g ph n e := by rw [← ks]; exact e
  unlocks p n e := absurd e (unlocks_none unlocks p n)
  lockout n e := by rw [lockout] at e; cases e
  strict n e := by rw [strict] at e; cases e
  windows x m := ⟨x, windows x m, rfl, rfl⟩
  alert a e := by rw [← alert]; exact e

theorem Fewer.reevaluatedAll {s t : State} (h : Fewer s t) : Fewer s (t.reevaluateAll s).migrate :=
  h.trans (t.reevaluateAll_ports s).migrated

theorem Fewer.reevaluatedTitle {s t : State} (h : Fewer s t) (title : Nat) : Fewer s (t.reevaluateTitle s title).migrate :=
  h.trans (t.reevaluateTitle_ports s title).migrated

theorem State.openStay_fewer (s : State) (f : StayOpenFields) : Fewer s (s.openStay f) := by
  unfold State.openStay
  exact Fewer.reevaluatedAll (.lockCleared rfl rfl rfl (fun _ => id) rfl rfl rfl)

theorem State.closeStay_fewer (s : State) : Fewer s s.closeStay := by
  have su := s.closeAll_su
  have none := s.closeAll_purchases
  have ks := s.closeAll_ks
  unfold State.closeStay
  generalize s.closeAll = t at su none ks
  refine Fewer.reevaluatedAll (.lockCleared ?_ ks ?_ (fun x m => ?_) rfl rfl rfl)
  · show t.su.clock = s.su.clock
    rw [su]
  · show t.su.alert = s.su.alert
    rw [su]
  · have m : x ∈ t.pu.purchases := m
    rw [none] at m
    cases m

theorem State.applySettings_fewer (s : State) (f : SettingsFields) : Fewer s (s.applySettings f) := by
  unfold State.applySettings
  exact Fewer.reevaluatedAll {}

theorem State.setCeiling_fewer (s : State) (value : Nat) : Fewer s (s.setCeiling value) := by
  have set : Fewer s { s with lu := { s.lu with ceiling := value } } := {}
  unfold State.setCeiling
  dsimp only
  split
  · exact set
  · exact set.reevaluatedAll

theorem State.endUnlocks_fewer (s : State) : Fewer s s.endUnlocks := by
  have ended : Fewer s { s with lu := s.lu.endUnlocks } := { unlocks := fun p n e => absurd e (unlocks_none rfl p n) }
  exact ended.trans (State.reevaluateWhere_ports _ s _).migrated

theorem State.setUnlock_none_fewer (s : State) (p : Port) : Fewer s (s.setUnlock p none) where
  unlocks q n e := by
    have e : (s.lu.unlocks.set p none)[q] = some n := e
    rw [Fin.getElem_fin, Vector.getElem_set] at e
    split at e
    · cases e
    · exact e

theorem State.endUnlock_fewer (s : State) (p : Port) : Fewer s (s.endUnlock p) := by
  unfold State.endUnlock
  split
  · exact (s.setUnlock_none_fewer p).trans (State.reevaluate_ports _ s p).migrated
  · exact .refl s

theorem LockUnit.clearPin_fewer (s : State) : Fewer s { s with lu := s.lu.clearPin } where
  lockout n e := by cases e
  strict n e := by cases e

theorem State.cutLockout_fewer (s : State) : Fewer s { s with lu := { s.lu with lockout := none } } where
  lockout n e := by cases e

theorem State.endStrict_fewer (s : State) : Fewer s s.endStrict where
  strict n e := by cases e

/-! ## The alert, the tunes and the resets -/

theorem State.clearAlert_fewer (s : State) : Fewer s (s.setAlert none) where
  alert a e := by cases e

theorem State.endAlert_fewer (s : State) : Fewer s s.endAlert :=
  s.clearAlert_fewer.trans (State.reevaluateWhere_ports _ s _).migrated

theorem State.clearKeys_fewer (s : State) : Fewer s { s with ks := s.ks.clear } where
  keys g ph n e := by
    obtain ⟨x, m, -⟩ := e
    have m : x ∈ s.ks.clear.entries := m
    rw [KeyStore.clear_entries] at m
    cases m

theorem State.resetRoom_fewer (s : State) : Fewer s s.resetRoom := by
  have off := s.clearAlert_fewer.trans (State.turnAllOff_ports _ s).fewer
  unfold State.resetRoom
  dsimp only
  generalize (s.setAlert none).turnAllOff s = t at off
  exact (off.trans (t.burst_fewer none)).trans (State.clearKeys_fewer _)

theorem State.tune_fewer (s : State) (p : Port) (c : Channel) : Fewer s ((s.tunePort p c).announce s).migrate :=
  ((s.tunePort_ports p c).trans (State.announce_ports _ s)).migrated

theorem State.turnOff_fewer (s : State) (p : Port) : Fewer s (s.turnOff s p).migrate := (s.turnOff_ports s p).migrated

theorem State.linkOff_fewer (s : State) : Fewer s (({ s with lu := s.lu.endUnlocks } : State).turnAllOff s).migrate := by
  have ended : Fewer s { s with lu := s.lu.endUnlocks } := { unlocks := fun p n e => absurd e (unlocks_none rfl p n) }
  exact ended.trans (State.turnAllOff_ports _ s).migrated

/-! ## Keys -/

theorem State.purge_fewer (s : State) (g : Nat) : Fewer s ({ s with ks := s.ks.purge g } : State).migrate := by
  have purged : Fewer s { s with ks := s.ks.purge g } := { keys := fun _ _ _ e => e.mono fun _ => KeyStore.purge_entries }
  exact purged.trans (State.migrate_fewer _)

theorem State.expireKey_fewer (s : State) (g : Nat) (ph : KeyPhase) : Fewer s (s.expireKey g ph) := by
  have dropped : Fewer s { s with ks := s.ks.dropPhase g ph } := { keys := fun _ _ _ => KeyStore.dropPhase_expires }
  exact dropped.trans (State.migrate_fewer _)

/-! ## Purchases, return units and the accruals -/

theorem State.closePurchase_su (s : State) (e : Purchase) (time : Nat) :
    (s.closePurchase e time).su = { s.su with spend := (s.closePurchase e time).su.spend } := by
  rw [State.closePurchase_spend]

theorem Fewer.removed {s t : State} (su : t.su = { s.su with spend := t.su.spend }) (ks : t.ks = s.ks) (lu : t.lu = s.lu)
    {title : Nat} (pu : t.pu.purchases = s.pu.purchases.filter (·.title != title)) : Fewer s t where
  clock := by rw [su]
  keys g ph n e := by rw [← ks]; exact e
  unlocks p n e := by rw [← lu]; exact e
  lockout n e := by rw [← lu]; exact e
  strict n e := by rw [← lu]; exact e
  windows x m := by rw [pu] at m; exact ⟨x, (List.mem_filter.mp m).1, rfl, rfl⟩
  alert a e := by rw [su] at e; exact e

theorem State.closePurchase_fewer (s : State) (e : Purchase) (time : Nat) : Fewer s (s.closePurchase e time) :=
  .removed (s.closePurchase_su e time) (s.closePurchase_ks e time) (s.closePurchase_lu e time) (s.closePurchase_purchases e time)

theorem State.endWindow_fewer (s : State) (e : Purchase) (due : Nat) : Fewer s (s.endWindow e due) :=
  (s.closePurchase_fewer e due).reevaluatedTitle e.title

theorem State.voidPurchase_fewer (s : State) (e : Purchase) : Fewer s (s.voidPurchase e) := by
  unfold State.voidPurchase
  refine Fewer.reevaluatedTitle ?_ e.title
  exact .removed rfl rfl rfl rfl

theorem State.handReturn_fewer (s : State) (r : ReturnUnit) : Fewer s (s.handReturn r) := by
  unfold State.handReturn
  split_ifs <;> exact {}

theorem State.endReturn_fewer (s : State) : Fewer s s.endReturn := by
  unfold State.endReturn
  split <;> exact {}

theorem State.releaseTo_fewer (s : State) (n : Nat) : Fewer s (s.releaseTo n) := by
  obtain e | ⟨-, e⟩ := s.releaseTo_cases n <;> rw [e] <;> exact {}

theorem State.accrueOutage_fewer (s : State) : Fewer s s.accrueOutage where
  windows x m := by
    obtain ⟨y, held, rfl⟩ := List.mem_map.mp m
    refine ⟨y, held, ?_⟩
    split <;> exact ⟨rfl, rfl⟩

theorem State.countPreview_fewer (s : State) : Fewer s s.countPreview := {}

theorem State.accruePreview_fewer (s : State) : Fewer s s.accruePreview := by
  have folded := (PortsFrame.foldl (fun t p => t.overPreview_ports p) (allPorts.filter s.countPreview.previewSpent) s.countPreview)
  exact s.countPreview_fewer.trans (folded.trans (State.announce_ports _ s)).migrated

theorem State.accrue_fewer (s : State) : Fewer s s.accrue := s.accrueOutage_fewer.trans (State.accruePreview_fewer _)

end Sys2Proof.Machine
end

section
/-! The due events taken (R10): each taken event is no more registered, so that a run takes every one that is due; and the
law of the due times through every step (O60). -/

namespace Sys2Proof.Machine

/-! ## One event taken -/

theorem State.endUnlock_unlock {s : State} {p : Port} (some : s.hasUnlock p = true) : (s.endUnlock p).lu.unlocks[p] = none := by
  unfold State.endUnlock
  rw [if_pos some, State.migrate_lu, State.reevaluate_lu]
  simp [State.setUnlock]

theorem State.endWindow_purchases (s : State) (e : Purchase) (due : Nat) :
    (s.endWindow e due).pu.purchases = s.pu.purchases.filter (·.title != e.title) := by
  unfold State.endWindow
  rw [State.migrate_pu, State.reevaluateTitle_pu, State.closePurchase_purchases]

theorem State.endAlert_alert (s : State) : s.endAlert.su.alert = none := by
  unfold State.endAlert
  rw [State.migrate_su, State.reevaluateWhere_su]
  rfl

theorem State.expireKey_ks (s : State) (g : Nat) (ph : KeyPhase) {x : KeyEntry} (m : x ∈ (s.expireKey g ph).ks.entries) :
    x ∈ (s.ks.dropPhase g ph).entries := State.migrate_entries (s := { s with ks := s.ks.dropPhase g ph }) m

/-- R114: the events left registered by a lockout's end. -/
theorem State.endLockout_registered {s : State} {due : Nat} {d : Nat × DueEvent} (h : (s.endLockout due).Registered d) :
    (s.Registered d ∧ d.2 ≠ .lockout) ∨ d = (holdDue (due + strictSeconds), .strict) := by
  obtain ⟨n, e⟩ := d
  cases e with
  | lockout => cases h
  | strict => exact .inr (by rw [Option.some.inj h])
  | _ => exact .inl ⟨h, by simp⟩

theorem State.takeDue_fewer {s : State} {due : Nat} {e : DueEvent} (other : e ≠ .lockout) : Fewer s (s.takeDue due e) := by
  unfold State.takeDue
  cases e with
  | keyPhase g ph => exact s.expireKey_fewer g ph
  | unlock p => exact s.endUnlock_fewer p
  | lockout => exact absurd rfl other
  | strict => exact s.endStrict_fewer
  | window title =>
    dsimp only
    split
    · exact s.endWindow_fewer _ due
    · exact .refl s
  | alert => exact s.endAlert_fewer

/-- R10: an event that is taken is no more registered, under any due time. -/
theorem State.takeDue_taken {s : State} (store : s.ks.StoreLaw) {d : Nat × DueEvent} (m : s.Registered d)
    (other : d.2 ≠ .lockout) (n : Nat) : ¬ (s.takeDue d.1 d.2).Registered (n, d.2) := by
  obtain ⟨due, e⟩ := d
  cases e with
  | keyPhase g ph =>
    rintro ⟨x, m, expires⟩
    exact store.dropPhase_not_expires g ph n ⟨x, s.expireKey_ks g ph m, expires⟩
  | unlock p =>
    intro h
    have h : (s.endUnlock p).lu.unlocks[p] = some n := h
    have held : s.lu.unlocks[p] = some due := m
    rw [State.endUnlock_unlock (by rw [State.hasUnlock, held]; rfl)] at h
    cases h
  | lockout => exact absurd rfl other
  | strict => exact fun h => by cases h
  | window title =>
    rintro ⟨x, left, own, -⟩
    obtain ⟨y, held, title', -⟩ := m
    have found : (s.purchase title).isSome = true := List.find?_isSome.mpr ⟨y, held, by simp [title']⟩
    obtain ⟨e, bought⟩ := Option.isSome_iff_exists.mp found
    simp only [State.takeDue, bought, State.endWindow_purchases, State.purchase_title bought, List.mem_filter, bne_iff_ne] at left
    exact left.2 own
  | alert =>
    rintro ⟨a, some, -⟩
    have some : s.endAlert.su.alert = Option.some a := some
    rw [State.endAlert_alert] at some
    cases some

/-- R10, R114: what is registered after an event that was registered has been taken. -/
theorem State.takeDue_registered {s : State} (store : s.ks.StoreLaw) {d d' : Nat × DueEvent} (m : s.Registered d)
    (h : (s.takeDue d.1 d.2).Registered d') :
    (s.Registered d' ∧ d'.2 ≠ d.2) ∨ (d.2 = .lockout ∧ d' = (holdDue (d.1 + strictSeconds), .strict)) := by
  by_cases lockout : d.2 = .lockout
  · rw [lockout] at h ⊢
    exact (State.endLockout_registered h).imp_right fun new => ⟨rfl, new⟩
  · refine .inl ⟨(State.takeDue_fewer lockout).registered h, fun same => ?_⟩
    obtain ⟨n, e⟩ := d'
    obtain rfl : e = d.2 := same
    exact State.takeDue_taken store m lockout n h

/-! ## A run of due events takes them all -/

/-- The names of the registered events. -/
def State.dueNames (s : State) : Finset DueEvent := (s.dueEvents.map (·.2)).toFinset

theorem State.mem_dueNames {s : State} {e : DueEvent} : e ∈ s.dueNames ↔ ∃ n, s.Registered (n, e) := by
  simp only [State.dueNames, List.mem_toFinset, List.mem_map, State.mem_dueEvents, Prod.exists, exists_eq_right]

/-- What is left to take: an event each, and for a lockout the strict quiet end that its end registers. -/
def State.dueLoad (s : State) : Nat := s.dueNames.card + if .lockout ∈ s.dueNames then 1 else 0

theorem State.dueLoad_le (s : State) : s.dueLoad ≤ s.dueEvents.length + 1 := by
  have card : s.dueNames.card ≤ s.dueEvents.length := (List.toFinset_card_le _).trans (by simp)
  unfold State.dueLoad
  split <;> omega

theorem State.takeDue_less {s : State} (store : s.ks.StoreLaw) {d : Nat × DueEvent} (m : s.Registered d) :
    (s.takeDue d.1 d.2).dueLoad < s.dueLoad := by
  let t := s.takeDue d.1 d.2
  have held : d.2 ∈ s.dueNames := State.mem_dueNames.mpr ⟨d.1, m⟩
  have card := Finset.card_erase_add_one held
  have left : ∀ e ∈ t.dueNames, e ∈ s.dueNames.erase d.2 ∨ (d.2 = .lockout ∧ e = .strict) := by
    intro e there
    obtain ⟨n, registered⟩ := State.mem_dueNames.mp there
    rcases State.takeDue_registered store m registered with ⟨was, apart⟩ | ⟨lockout, new⟩
    · exact .inl (Finset.mem_erase.mpr ⟨apart, State.mem_dueNames.mpr ⟨n, was⟩⟩)
    · exact .inr ⟨lockout, congrArg Prod.snd new⟩
  show t.dueLoad < s.dueLoad
  unfold State.dueLoad
  by_cases lockout : d.2 = .lockout
  · have none : DueEvent.lockout ∉ t.dueNames := by
      intro there
      rcases left _ there with was | ⟨-, new⟩
      · rw [lockout] at was
        exact absurd was (Finset.notMem_erase _ _)
      · cases new
    have fewer : t.dueNames.card ≤ (insert DueEvent.strict (s.dueNames.erase d.2)).card := by
      refine Finset.card_le_card fun e there => ?_
      rcases left e there with was | ⟨-, new⟩
      · exact Finset.mem_insert_of_mem was
      · rw [new]
        exact Finset.mem_insert_self _ _
    have one := Finset.card_insert_le DueEvent.strict (s.dueNames.erase d.2)
    rw [lockout] at held
    rw [if_neg none, if_pos held]
    omega
  · have sub : t.dueNames ⊆ s.dueNames.erase d.2 := fun e there => (left e there).resolve_right fun h => lockout h.1
    have fewer := Finset.card_le_card sub
    have kept : DueEvent.lockout ∈ t.dueNames → DueEvent.lockout ∈ s.dueNames := fun there => (Finset.mem_erase.mp (sub there)).2
    split
    · next there =>
      rw [if_pos (kept there)]
      omega
    · omega

theorem State.takeNext_less {s : State} (store : s.ks.StoreLaw) (due : s.dueNow ≠ []) : s.takeNext.dueLoad < s.dueLoad := by
  obtain ⟨none, -⟩ | ⟨d, c, m, -, took⟩ := s.takeNext_cases
  · exact absurd none due
  · rw [took]
    have registered : s.Registered d := State.mem_dueEvents.mp (List.mem_filter.mp m).1
    exact State.takeDue_less (s := { s with choices := c }) store registered

theorem State.takeNext_none {s : State} (h : s.dueNow = []) : s.takeNext = s := by simp [State.takeNext, h, earliest]

theorem State.takeDueUpTo_none {s : State} (h : s.dueNow = []) : ∀ n, State.takeDueUpTo n s = s
  | 0 => rfl
  | n + 1 => by rw [State.takeDueUpTo, State.takeNext_none h, State.takeDueUpTo_none h n]

theorem State.takeDueUpTo_clears : ∀ (n : Nat) {s : State}, s.ks.StoreLaw → s.dueLoad ≤ n → (State.takeDueUpTo n s).dueNow = []
  | 0, s, _, load => by
    have none : s.dueNames = ∅ := Finset.card_eq_zero.mp (by unfold State.dueLoad at load; omega)
    refine List.filter_eq_nil_iff.mpr fun d m => ?_
    have there : d.2 ∈ s.dueNames := State.mem_dueNames.mpr ⟨d.1, State.mem_dueEvents.mp m⟩
    rw [none] at there
    exact absurd there (Finset.notMem_empty _)
  | n + 1, s, store, load => by
    by_cases due : s.dueNow = []
    · rw [State.takeDueUpTo_none due]
      exact due
    · have less := State.takeNext_less store due
      exact State.takeDueUpTo_clears n (s.takeNext_keeps.store store) (by omega)

/-- R10: settling leaves nothing due. -/
theorem State.settleDue_clears {s : State} (store : s.ks.StoreLaw) : s.settleDue.dueNow = [] :=
  State.takeDueUpTo_clears _ store s.dueLoad_le

theorem State.dueNow_none {s : State} (h : s.dueNow = []) {d : Nat × DueEvent} (m : s.Registered d) : s.su.clock < d.1 := by
  by_contra below
  have there : d ∈ s.dueNow := List.mem_filter.mpr ⟨State.mem_dueEvents.mpr m, by simpa using below⟩
  rw [h] at there
  cases there

/-! ## Due times within the clock's range -/

/-- R10: no due time is registered above the clock's last value. -/
def State.DueBounded (s : State) : Prop := ∀ d, s.Registered d → d.1 ≤ clockMax

theorem holdDue_le (n : Nat) : holdDue n ≤ clockMax := Nat.min_le_right _ _

theorem State.takeNext_bounded {s : State} (h : s.DueBounded) : s.takeNext.DueBounded := by
  obtain ⟨-, same⟩ | ⟨d, c, -, -, took⟩ := s.takeNext_cases
  · rw [same]
    exact h
  · rw [took]
    intro d' registered
    by_cases lockout : d.2 = .lockout
    · rw [lockout] at registered
      rcases State.endLockout_registered registered with ⟨was, -⟩ | rfl
      · exact h d' was
      · exact holdDue_le _
    · exact h d' ((State.takeDue_fewer (s := { s with choices := c }) lockout).registered registered)

theorem State.takeDueUpTo_bounded : ∀ (n : Nat) {s : State}, s.DueBounded → (State.takeDueUpTo n s).DueBounded
  | 0, _, h => h
  | n + 1, _, h => State.takeDueUpTo_bounded n (State.takeNext_bounded h)

/-- R8: the due events do not move the clock. -/
theorem DueFrame.clock {s t : State} (h : DueFrame s t) : t.su.clock = s.su.clock := by rw [h.su]

theorem State.settleDue_dueLaw {s : State} (store : s.ks.StoreLaw) (clock : s.su.clock ≤ clockMax) (bounded : s.DueBounded) :
    s.settleDue.DueLaw := by
  refine ⟨by rw [s.settleDue_due.clock]; exact clock, fun d m => ?_⟩
  have registered := State.mem_dueEvents.mp m
  exact ⟨State.dueNow_none (State.settleDue_clears store) registered, State.takeDueUpTo_bounded _ bounded d registered⟩

theorem State.DueLaw.bounded {s : State} (law : s.DueLaw) : s.DueBounded := fun d m => (law.2 d (State.mem_dueEvents.mpr m)).2

theorem Fewer.bounded {s t : State} (h : Fewer s t) (bounded : s.DueBounded) : t.DueBounded := fun d m =>
  bounded d (h.registered m)

/-- R10: the due times while an event that registers one is not yet complete: ahead of the clock, or held with it at its last
value. -/
def State.SoftDue (s : State) : Prop :=
  s.su.clock ≤ clockMax ∧ ∀ d, s.Registered d → d.1 ≤ clockMax ∧ (s.su.clock < d.1 ∨ clockMax ≤ s.su.clock)

theorem State.SoftDue.settleHeld {s : State} (h : s.SoftDue) (store : s.ks.StoreLaw) : s.settleHeld.DueLaw := by
  unfold State.settleHeld
  split
  · exact State.settleDue_dueLaw store h.1 fun d m => (h.2 d m).1
  · next below =>
    exact ⟨h.1, fun d m => ⟨(h.2 d (State.mem_dueEvents.mp m)).2.resolve_right below, (h.2 d (State.mem_dueEvents.mp m)).1⟩⟩

/-- R10: a due time counted from the clock is ahead of it, or is held. -/
theorem State.DueLaw.register {s t : State} (law : s.DueLaw) (clock : t.su.clock = s.su.clock)
    (dues : ∀ d, t.Registered d → s.Registered d ∨ ∃ n, 0 < n ∧ d.1 = holdDue (s.su.clock + n)) : t.SoftDue := by
  refine ⟨by rw [clock]; exact law.1, fun d m => ?_⟩
  rw [clock]
  rcases dues d m with was | ⟨n, positive, due⟩
  · have := law.2 d (State.mem_dueEvents.mpr was)
    exact ⟨this.2, .inl this.1⟩
  · rw [due]
    refine ⟨holdDue_le _, ?_⟩
    unfold holdDue
    omega

theorem Fewer.softDue {s t : State} (h : Fewer s t) (soft : s.SoftDue) : t.SoftDue := by
  refine ⟨by rw [h.clock]; exact soft.1, fun d m => ?_⟩
  rw [h.clock]
  exact soft.2 d (h.registered m)

/-! ## What registers a due time -/

theorem State.setAlert_softDue {s : State} (law : s.DueLaw) (c : Channel) {n : Nat} (positive : 0 < n) :
    (s.setAlert (some { channel := c, endTime := holdDue (s.su.clock + n) })).SoftDue := by
  refine law.register rfl fun d m => ?_
  obtain ⟨due, e⟩ := d
  cases e with
  | alert =>
    obtain ⟨a, some, ends⟩ := m
    obtain rfl := Option.some.inj some
    exact .inr ⟨n, positive, ends.symm⟩
  | _ => exact .inl m

theorem State.orderAlert_softDue {s : State} (law : s.DueLaw) (c : Channel) {n : Nat} (positive : 0 < n) :
    (s.orderAlert { channel := c, endTime := holdDue (s.su.clock + n) }).SoftDue := by
  have set := State.setAlert_softDue law c positive
  unfold State.orderAlert
  split
  · exact (State.startAlert_ports _ _).migrated.softDue set
  · split
    · exact set
    · exact (State.moveAlert_ports _ _).migrated.softDue set

theorem State.endLockout_softDue {s : State} (law : s.DueLaw) {due : Nat} (locked : s.lu.lockout = some due) :
    (s.endLockout due).SoftDue := by
  have ahead : s.su.clock < due := (law.2 (due, .lockout) (State.mem_dueEvents.mpr locked)).1
  refine law.register rfl fun d m => ?_
  rcases State.endLockout_registered m with ⟨was, -⟩ | rfl
  · exact .inl was
  · refine .inr ⟨due + strictSeconds - s.su.clock, ?_, ?_⟩
    · simp only [strictSeconds]
      omega
    · simp only
      congr 1
      omega

theorem State.unlockPort_softDue {s : State} (law : s.DueLaw) (p : Port) {n : Nat} (positive : 0 < n) :
    (s.unlockPort p n).SoftDue := by
  have set : (({ s with lu := { s.lu with failures := 0 } } : State).setUnlock p (some (holdDue (s.su.clock + n)))).SoftDue := by
    refine law.register rfl fun d m => ?_
    obtain ⟨due, e⟩ := d
    cases e with
    | unlock q =>
      have m : (s.lu.unlocks.set p (some (holdDue (s.su.clock + n))))[q] = some due := m
      rw [Fin.getElem_fin, Vector.getElem_set] at m
      split at m
      · exact .inr ⟨n, positive, (Option.some.inj m).symm⟩
      · exact .inl m
    | _ => exact .inl m
  unfold State.unlockPort
  exact (State.reevaluate_ports _ s p).migrated.softDue set

/-- R113: the due times of a lock that has counted a wrong PIN. -/
theorem State.countFailure_softDue {s t : State} (law : s.DueLaw) (su : t.su = s.su) (ks : t.ks = s.ks) (pu : t.pu = s.pu)
    (strict : t.lu.strict = (s.lu.countFailure s.su.clock).strict)
    (lockout : t.lu.lockout = s.lu.lockout ∨ t.lu.lockout = some (holdDue (s.su.clock + lockoutSeconds)))
    (unlocks : t.lu.unlocks = s.lu.unlocks ∨ t.lu.unlocks = Vector.replicate 4 none) : t.SoftDue := by
  refine law.register (by rw [su]) fun d m => ?_
  obtain ⟨due, e⟩ := d
  cases e with
  | keyPhase g ph =>
    have m : t.ks.Expires g ph due := m
    rw [ks] at m
    exact .inl m
  | unlock p =>
    have m : t.lu.unlocks[p] = some due := m
    rcases unlocks with same | ended
    · rw [same] at m
      exact .inl m
    · exact absurd m (unlocks_none ended p due)
  | lockout =>
    have m : t.lu.lockout = some due := m
    rcases lockout with same | locked
    · rw [same] at m
      exact .inl m
    · rw [locked] at m
      exact .inr ⟨lockoutSeconds, by decide, (Option.some.inj m).symm⟩
  | strict =>
    have m : t.lu.strict = some due := m
    rw [strict] at m
    obtain ⟨-, -, new⟩ := Option.map_eq_some_iff.mp m
    exact .inr ⟨strictSeconds, by decide, new.symm⟩
  | window title =>
    obtain ⟨x, m, own⟩ := m
    rw [pu] at m
    exact .inl ⟨x, m, own⟩
  | alert =>
    obtain ⟨a, some, own⟩ := m
    rw [su] at some
    exact .inl ⟨a, some, own⟩

theorem State.wrongPin_softDue {s : State} (law : s.DueLaw) : s.wrongPin.1.SoftDue := by
  by_cases budget : (s.lu.countFailure s.su.clock).failures = (s.lu.countFailure s.su.clock).budget
  · simp only [State.wrongPin, if_pos budget]
    exact (State.reevaluateWhere_ports _ s _).migrated.softDue
      (State.countFailure_softDue law rfl rfl rfl rfl (.inr rfl) (.inr rfl))
  · simp only [State.wrongPin, if_neg budget]
    exact State.countFailure_softDue law rfl rfl rfl rfl (.inl rfl) (.inl rfl)

theorem State.recordBuy_ks (s : State) (e : Purchase) (n : Nat) : (s.recordBuy e n).ks = s.ks := by
  rw [State.recordBuy_eq]
  exact State.takeUpPreview_ks _ _ _

theorem State.recordBuy_softDue {s : State} (law : s.DueLaw) {e : Purchase} {n : Nat} (positive : 0 < n)
    (ends : e.windowEnd = holdDue (s.su.clock + n)) (preview : Nat) : (s.recordBuy e preview).SoftDue := by
  have su := s.recordBuy_su e preview
  have lu := s.recordBuy_lu e preview
  have pu := s.recordBuy_pu e preview
  have ks := s.recordBuy_ks e preview
  generalize s.recordBuy e preview = t at su lu pu ks
  refine law.register (by rw [su]) fun d m => ?_
  obtain ⟨due, e'⟩ := d
  cases e' with
  | keyPhase g ph =>
    have m : t.ks.Expires g ph due := m
    rw [ks] at m
    exact .inl m
  | unlock p =>
    have m : t.lu.unlocks[p] = some due := m
    rw [lu] at m
    exact .inl m
  | lockout =>
    have m : t.lu.lockout = some due := m
    rw [lu] at m
    exact .inl m
  | strict =>
    have m : t.lu.strict = some due := m
    rw [lu] at m
    exact .inl m
  | window title =>
    obtain ⟨x, m, own, ends'⟩ := m
    rw [pu] at m
    rcases List.mem_append.mp m with was | new
    · exact .inl ⟨x, was, own, ends'⟩
    · obtain rfl := List.mem_singleton.mp new
      exact .inr ⟨n, positive, ends'.symm.trans ends⟩
  | alert =>
    obtain ⟨a, some, own⟩ := m
    rw [su] at some
    exact .inl ⟨a, some, own⟩

theorem State.playTitle_fewer (s before : State) (p : Port) (c : Channel) (title : Nat) :
    Fewer s (s.playTitle before p c title) := by
  unfold State.playTitle
  exact (((s.tunePort_ports p c).trans (State.reevaluateEach_ports _ _)).trans (State.announce_ports _ before)).migrated

theorem State.acceptBuy_softDue {s : State} (tables : s.TableLaw) (law : s.DueLaw) {p : Port} {c : Channel}
    (passes : s.buyRefusal p c = none) : (s.acceptBuy p c).SoftDue := by
  obtain ⟨e, title, k, entry, -, found, -, film, -, -, -, -, -, price, -⟩ := State.buyRefusal_none passes
  have window : 0 < entry.window := by
    have lawful := tables.2.1 k entry price
    simp only [PriceEntry.lawful, Bool.and_eq_true, decide_eq_true_eq] at lawful
    omega
  rw [State.acceptBuy_eq found film price]
  exact (State.playTitle_fewer _ _ _ _ _).softDue (State.recordBuy_softDue law window rfl _)

theorem Registers.softDue {s t : State} (h : Registers s t) (tables : s.TableLaw) (law : s.DueLaw) : t.SoftDue := by
  cases h with
  | unlock p seconds positive unlocked => exact State.unlockPort_softDue law p positive
  | wrongPin pin unlocked => exact State.wrongPin_softDue law
  | buy p c passes => exact State.acceptBuy_softDue tables law passes

/-! ## Every event -/

theorem State.loadKey_dueLaw {s : State} (law : s.DueLaw) (g : Nat) (ph : KeyPhase) (k : PhaseKey) (u : Unit96)
    (range : k.expiry ≤ clockMax) : (s.loadKey g ph k u).DueLaw := by
  unfold State.loadKey
  split
  · exact (s.refuse_fewer u .expired).dueLaw law
  · next ahead =>
    refine ⟨law.1, fun d m => ?_⟩
    have m := State.mem_dueEvents.mp m
    obtain ⟨due, e⟩ := d
    cases e with
    | keyPhase g' ph' =>
      rcases State.placeKey_expires m with was | ⟨zero, rfl⟩
      · exact law.2 (due, .keyPhase g' ph') (State.mem_dueEvents.mpr was)
      · exact ⟨Nat.lt_of_not_le fun below => ahead ⟨Nat.pos_of_ne_zero zero, below⟩, range⟩
    | unlock p => exact law.2 (due, .unlock p) (State.mem_dueEvents.mpr m)
    | lockout => exact law.2 (due, .lockout) (State.mem_dueEvents.mpr m)
    | strict => exact law.2 (due, .strict) (State.mem_dueEvents.mpr m)
    | window title => exact law.2 (due, .window title) (State.mem_dueEvents.mpr m)
    | alert => exact law.2 (due, .alert) (State.mem_dueEvents.mpr m)

theorem State.tick_clock (s : State) : s.su.tickClock.countSilence.clock = min (s.su.clock + 1) clockMax := by
  unfold StayUnit.countSilence
  split <;> rfl

theorem State.tick_alert (s : State) : s.su.tickClock.countSilence.alert = s.su.alert := by
  unfold StayUnit.countSilence
  split <;> rfl

/-- R10: a tick of the clock registers nothing. -/
theorem State.tick_registered {s : State} {d : Nat × DueEvent}
    (m : ({ s with su := s.su.tickClock.countSilence } : State).Registered d) : s.Registered d := by
  obtain ⟨due, e⟩ := d
  cases e with
  | alert =>
    obtain ⟨a, some, own⟩ := m
    have some : s.su.tickClock.countSilence.alert = Option.some a := some
    rw [State.tick_alert] at some
    exact ⟨a, some, own⟩
  | _ => exact m

theorem State.second_dueLaw {s : State} (store : s.ks.StoreLaw) (law : s.DueLaw) : s.second.DueLaw := by
  have bounded : ({ s with su := s.su.tickClock.countSilence } : State).DueBounded := fun d m =>
    law.bounded d (State.tick_registered m)
  have clock : ({ s with su := s.su.tickClock.countSilence } : State).su.clock ≤ clockMax := by
    show s.su.tickClock.countSilence.clock ≤ clockMax
    rw [State.tick_clock]
    exact Nat.min_le_right _ _
  have store : ({ s with su := s.su.tickClock.countSilence } : State).ks.StoreLaw := store
  generalize ticked : ({ s with su := s.su.tickClock.countSilence } : State) = t at bounded clock store
  obtain ⟨none, same⟩ | ⟨k, c, eq⟩ := s.second_cases t ticked.symm
  · rw [same]
    refine t.accrue_fewer.dueLaw ⟨clock, fun d m => ?_⟩
    have m := State.mem_dueEvents.mp m
    exact ⟨State.dueNow_none none m, bounded d m⟩
  · rw [eq]
    have run := State.takeDueUpTo_keeps k { t with choices := c }
    have frame := State.takeDueUpTo_due k { t with choices := c }
    have bounded := State.takeDueUpTo_bounded k (s := { t with choices := c }) bounded
    have clock : (State.takeDueUpTo k { t with choices := c }).su.clock ≤ clockMax := by rw [frame.clock]; exact clock
    have store := run.store store
    generalize State.takeDueUpTo k { t with choices := c } = m at bounded clock store
    refine State.settleDue_dueLaw (m.accrue_keeps.store store) ?_ (m.accrue_fewer.bounded bounded)
    rw [m.accrue_fewer.clock]
    exact clock

theorem State.breakSilence_fewer (s : State) : Fewer s s.breakSilence where
  windows x m := by
    refine ⟨x, ?_, rfl, rfl⟩
    unfold State.breakSilence at m
    dsimp only at m
    split at m <;> exact m

theorem State.mark_dueLaw {s : State} (store : s.ks.StoreLaw) (law : s.DueLaw) {t : Nat} (range : t ≤ clockMax) :
    (s.mark t).DueLaw := by
  unfold State.mark
  split
  · exact (State.breakSilence_fewer _).dueLaw
      (State.settleDue_dueLaw (s := { s with su := { s.su with clock := t } }) store range law.bounded)
  · have ignored : Fewer s { s with su := { s.su with marksIgnored := raiseCounter s.su.marksIgnored } } := {}
    exact (ignored.trans (State.breakSilence_fewer _)).dueLaw law

theorem Event.dueLaw {s t : State} (h : Event s t) (store : s.ks.StoreLaw) (law : s.DueLaw) : t.DueLaw := by
  cases h with
  | deliver u => exact (s.deliver_fewer u).dueLaw law
  | countFault => exact law
  | failCheck u => exact law
  | refuse u r => exact law
  | closeBurst => exact law
  | openBurst u t => exact (s.openBurst_fewer u t).dueLaw law
  | takeEntry u t i => exact (s.takeEntry_fewer u t i).dueLaw law
  | mark t range => exact State.mark_dueLaw store law range
  | loadKey group phase k u held range => exact State.loadKey_dueLaw law group phase k u range
  | purge group => exact (s.purge_fewer group).dueLaw law
  | clearKeys => exact s.clearKeys_fewer.dueLaw law
  | openStay u closed => exact (s.openStay_fewer _).dueLaw law
  | closeStay => exact s.closeStay_fewer.dueLaw law
  | settings u => exact (s.applySettings_fewer _).dueLaw law
  | setCeiling value range => exact (s.setCeiling_fewer value).dueLaw law
  | endUnlocks => exact s.endUnlocks_fewer.dueLaw law
  | clearPin => exact (LockUnit.clearPin_fewer s).dueLaw law
  | cutLockout => exact s.cutLockout_fewer.dueLaw law
  | freeze frozen => exact law
  | orderAlert channel seconds positive =>
    exact (State.orderAlert_softDue law channel positive).settleHeld ((s.orderAlert_keeps _).store store)
  | endAlert => exact s.endAlert_fewer.dueLaw law
  | handReturn r => exact (s.handReturn_fewer r).dueLaw law
  | endReturn => exact s.endReturn_fewer.dueLaw law
  | release n => exact (s.releaseTo_fewer n).dueLaw law
  | resetRoom => exact s.resetRoom_fewer.dueLaw law
  | second => exact State.second_dueLaw store law
  | silent => exact law
  | expireKey group phase => exact (s.expireKey_fewer group phase).dueLaw law
  | endUnlock p => exact (s.endUnlock_fewer p).dueLaw law
  | endLockout due locked => exact (State.endLockout_softDue law locked).settleHeld store
  | endStrict => exact s.endStrict_fewer.dueLaw law
  | endWindow e bought => exact (s.endWindow_fewer e _).dueLaw law
  | expireSignal p => exact (s.expireSignal_ports p).fewer.dueLaw law
  | expireCadence p => exact (s.expireCadence_ports p).fewer.dueLaw law
  | millisecond => exact s.millisecond_ports.fewer.dueLaw law
  | sends l quiet => exact law
  | tune p c => exact (s.tune_fewer p c).dueLaw law
  | off p => exact (s.turnOff_fewer p).dueLaw law
  | void e bought => exact (s.voidPurchase_fewer e).dueLaw law
  | forgive unlocked => exact law
  | storePin pin occupied unlocked long short digits => exact law
  | linkOff => exact s.linkOff_fewer.dueLaw law

/-- Settles O60: the tables are kept write by write; every event leaves the due times ahead of the clock (`Event.dueLaw`), and
a request that registers one at the clock's last value settles it (`Registers.softDue`, `State.SoftDue.settleHeld`). -/
theorem stepsKeepTablesAndDueTimes : Obligations.StepsKeepTablesAndDueTimes := by
  intro s t h tables
  have reset : ∀ (s : State) (strap : BitVec 14), (s.powerOn strap).TableLaw := fun s strap =>
    ⟨fun c e m => by simp [State.entry, State.powerOn, State.reset] at m,
      fun k e m => by simp [State.price, State.powerOn, State.reset] at m,
      fun i e m => by simp [State.powerOn, State.reset] at m, fun b m => by simp [State.powerOn, State.reset] at m⟩
  have dues : ∀ (s : State) (strap : BitVec 14), (s.powerOn strap).DueLaw := fun s strap =>
    ⟨Nat.zero_le _, fun d m => by
      have none : (s.powerOn strap).dueEvents = [] := by
        show State.reset.dueEvents = []
        rfl
      rw [none] at m
      cases m⟩
  refine ⟨?_, fun store law => ?_⟩
  · exact step_keeps (P := State.TableLaw) (fun _ _ => Act.keeps_tableLaw) (fun _ _ _ _ => id) reset h tables
  · exact (step_keeps_events (P := fun s => (s.TableLaw ∧ s.ks.StoreLaw) ∧ s.DueLaw)
      (Q := fun s => (s.TableLaw ∧ s.ks.StoreLaw) ∧ s.SoftDue)
      (fun s t event p => ⟨⟨event.acts.keep (fun _ _ => Act.keeps_tableLaw) p.1.1, event.keeps.store p.1.2⟩,
        event.dueLaw p.1.2 p.2⟩)
      (fun s t regs p => ⟨⟨regs.acts.keep (fun _ _ => Act.keeps_tableLaw) p.1.1, regs.keeps.store p.1.2⟩,
        regs.softDue p.1.1 p.2⟩)
      (fun s q => ⟨⟨s.settleHeld_acts.keep (fun _ _ => Act.keeps_tableLaw) q.1.1, s.settleHeld_keeps.store q.1.2⟩,
        q.2.settleHeld q.1.2⟩)
      (fun _ _ _ _ => id) (fun _ _ => id) (fun s strap => ⟨⟨reset s strap, s.powerOn_storeLaw strap⟩, dues s strap⟩) h
      ⟨⟨tables, store⟩, law⟩).2

end Sys2Proof.Machine
end

section
/-! How a row runs: a step (`exec` of the queue's front), the well-formed terms, MD's refusals and takings, and RL's
taking of a request, each said once for all rows. -/

namespace Sys2Proof.Machine

/-! ## The step -/

/-- Settles O1: the queue's front is the first case of `step`. -/
theorem stepRunsTheFrontCommand : Obligations.StepRunsTheFrontCommand := by
  intro c rest s queue
  unfold step
  rw [queue]

/-! ## Which terms stand for a command -/

/-- Every row is a next state guarded by the spelling of its unit; a row without a unit is guarded by `true`. -/
theorem exec_asRow (c : Instr) (s : State) : ∃ t, exec c s = asRow c.wellFormed t := by
  cases c <;> exact ⟨_, rfl⟩

/-- Settles O3, by `exec_asRow`. -/
theorem everyCommandGoesOn : Obligations.EveryCommandGoesOn := by
  intro c s
  obtain ⟨t, run⟩ := exec_asRow c s
  refine ⟨fun spelled => ⟨t, ?_⟩, fun other => ?_⟩
  · rw [run, asRow_spelled spelled]
  · rw [run, other]
    rfl

/-- R15: no event is registered after reset. -/
theorem reset_dueEvents : State.reset.dueEvents = [] := by
  refine List.eq_nil_iff_forall_not_mem.mpr fun d due => ?_
  have registered := State.mem_dueEvents.mp due
  obtain ⟨time, event⟩ := d
  cases event <;>
    simp [State.Registered, State.reset, StayUnit.reset, KeyStore.entries, KeySet.empty] at registered

/-- Settles O5: the power-on state is `State.reset` but for the room number and the model's own fields. -/
theorem powerOnResetLeaves : Obligations.PowerOnResetLeaves := by
  intro strap s
  refine ⟨s.powerOn strap, rfl, rfl, rfl, rfl, ⟨rfl, rfl, rfl, rfl, rfl, rfl, rfl, rfl, rfl, rfl, rfl, rfl, rfl, rfl, rfl,
    rfl, reset_dueEvents⟩, ⟨rfl, rfl, fun i => ?_, rfl, rfl, rfl, rfl, rfl, rfl⟩,
    ⟨fun c => ?_, fun k => ?_, fun i => ?_, rfl, rfl, rfl, fun p => ?_, rfl⟩,
    ⟨rfl, rfl, rfl, rfl, rfl, rfl, fun p => ?_⟩, rfl, rfl, rfl, rfl⟩
  all_goals simp [State.powerOn, State.reset, State.entry, State.price, State.port, KeySet.empty]

/-! ## MD: units that fail, are refused or are taken (R26 to R31, R35) -/

/-- R35: MD's state after the burst's close. -/
theorem State.closeBurst_eq (s : State) : s.closeBurst = { s with md := s.closedMd } := rfl

/-- R28, R30, R35: a unit that is taken and has a field out of range is refused. -/
theorem managed_badField {spelled : Bool} {s : State} {u : Unit96} {closes roomOnly : Bool} {owner : State → State}
    (spells : spelled = true) (taken : s.Takes u) :
    asRow spelled (s.manage u ⟨closes, roomOnly, false⟩ owner) = .next { s with md := s.refusedMd u .badField closes } := by
  obtain ⟨check, accepted⟩ := taken
  rw [asRow_spelled spells]
  cases closes with
  | true => simpa [State.manage, check, accepted] using s.closeBurst_refuse_eq_refusedMd u .badField
  | false => simpa [State.manage, check, accepted] using s.refuse_eq_refusedMd u .badField

/-- R29, R30, R35: a unit of a room-only kind that is not addressed to the room's number is refused. -/
theorem managed_roomOnly {spelled : Bool} {s : State} {u : Unit96} {closes : Bool} {owner : State → State}
    (spells : spelled = true) (taken : s.Takes u) (elsewhere : s.addressedToRoom u = false) :
    asRow spelled (s.manage u ⟨closes, true, true⟩ owner) = .next { s with md := s.refusedMd u .roomOnly closes } := by
  obtain ⟨check, accepted⟩ := taken
  have elsewhere' : s.closeBurst.addressedToRoom u = false := elsewhere
  rw [asRow_spelled spells]
  cases closes with
  | true => simpa [State.manage, check, accepted, elsewhere'] using s.closeBurst_refuse_eq_refusedMd u .roomOnly
  | false => simpa [State.manage, check, accepted, elsewhere] using s.refuse_eq_refusedMd u .roomOnly

/-- R31, R35: a unit of a kind for every room that is taken reaches its owner, after the burst's close. -/
theorem managed {spelled : Bool} {s : State} {u : Unit96} {closes fields : Bool} {owner : State → State}
    (spells : spelled = true) (taken : s.Takes u) (ok : fields = true) :
    asRow spelled (s.manage u ⟨closes, false, fields⟩ owner) = .next (owner (if closes then s.closeBurst else s)) := by
  obtain ⟨check, accepted⟩ := taken
  rw [asRow_spelled spells, State.manage_taken _ check accepted ok (by simp)]

/-- Settles O9: MD's first test is the check word's (`State.manage_failed`), whatever the row. -/
theorem checkFailureIsOnlyCounted : Obligations.CheckFailureIsOnlyCounted := by
  intro u s c row spelled fails
  obtain ⟨_, owner, run⟩ := exec_managementRow row spelled
  have bytes : (Vector.ofFn fun i : Fin 16 => u.byte i.val) = Vector.ofFn fun i : Fin 16 => u.body[i.val] :=
    congrArg Vector.ofFn (funext fun i => u.byte_eq_getElem (by omega))
  rw [run, State.manage_failed _ owner fails, State.failCheck, bytes]
  cases s.md.capture <;> rfl

/-! ## The header (R20, R172) -/

theorem feedKind_media {u : Unit96} (kind : u.header[0].toNat = 1) : u.feedKind = .media := by simp [Unit96.feedKind, kind]

theorem feedKind_mgmt {u : Unit96} (kind : u.header[0].toNat = 2) : u.feedKind = .mgmt := by simp [Unit96.feedKind, kind]

theorem feedKind_invalid {u : Unit96} (kind : u.header[0].toNat = 0 ∨ 5 ≤ u.header[0].toNat) : u.feedKind = .invalid := by
  unfold Unit96.feedKind
  generalize u.header[0].toNat = k at kind
  obtain rfl | five := kind
  · rfl
  · obtain ⟨n, rfl⟩ := Nat.exists_eq_add_of_le' five
    rfl

/-- R172: phase code 3 alone is invalid. -/
theorem phase_invalid_iff (u : Unit96) : u.phase = .invalid ↔ u.header[3].toNat / 64 = 3 := by
  have code : u.header[3].toNat / 64 < 4 := by omega
  unfold Unit96.phase
  split
  · next clear => simp [clear]
  · next a => simp [a]
  · next b => simp [b]
  · next not0 not1 not2 =>
    have not0 : u.header[3].toNat / 64 ≠ 0 := not0
    have not1 : u.header[3].toNat / 64 ≠ 1 := not1
    have not2 : u.header[3].toNat / 64 ≠ 2 := not2
    exact iff_of_true rfl (by omega)

theorem spellsMedia_of {u : Unit96} (kind : u.header[0].toNat = 1) (phase : u.header[3].toNat / 64 ≠ 3) :
    u.spellsMedia = true := by
  simp [Unit96.spellsMedia, feedKind_media kind, phase_invalid_iff, phase]

theorem spellsMgmt_of {u : Unit96} {k : Nat} (kind : u.header[0].toNat = 2) (phase : u.header[3].toNat / 64 ≠ 3)
    (code : u.body[2].toNat = k) : u.spellsMgmt k = true := by
  simp [Unit96.spellsMgmt, feedKind_mgmt kind, phase_invalid_iff, phase, u.byte_eq_getElem (show 2 < 88 by decide), code]

/-! ## Discarded units (R20, R21, R163) -/

/-- R21: a unit that matches no port is treated nowhere. -/
theorem State.deliver_unmatched {s : State} {u : Unit96} (unmatched : u.stream = 4095 ∨ ∀ p, s.matches p u = false) :
    s.deliver u = s := by
  obtain null | unmatched := unmatched
  · exact if_pos null
  · have nobody : (allPorts.filter fun p => s.matches p u) = [] := List.filter_eq_nil_iff.mpr fun p _ => by simp [unmatched p]
    unfold State.deliver State.arranged State.afterArranging
    rw [nobody]
    exact ite_self s

theorem State.matches_iff (s : State) (p : Port) (u : Unit96) : s.matches p u = true ↔
    ∃ v home d timer, s.port p = .active v home (some u.stream) d timer := by
  unfold State.matches
  split
  · next v home stream d timer port =>
    rw [beq_iff_eq]
    refine ⟨fun same => ⟨v, home, d, timer, same ▸ port⟩, fun ⟨v', home', d', timer', port'⟩ => ?_⟩
    rw [port] at port'
    cases port'
    rfl
  · next other =>
    refine ⟨fun h => absurd h (by decide), fun ⟨v, home, d, timer, port⟩ => absurd port (other v home u.stream d timer)⟩

/-- Settles O6: no row of a discarded unit has an owner; a MEDIA unit that matches no port makes no copy
(`State.deliver_unmatched`). -/
theorem discardedUnitsChangeNothing : Obligations.DiscardedUnitsChangeNothing := by
  intro u s
  refine ⟨fun kind => asRow_spelled ?_ s, fun kind => asRow_spelled ?_ s, fun kind => asRow_spelled ?_ s, fun fault => ?_,
    fun kind phase unmatched => ?_⟩
  · simp [Unit96.feedKind, kind]
  · simp [Unit96.feedKind, kind]
  · simp [Unit96.spellsNonRequest, kind]
  · refine asRow_spelled ?_ _
    obtain zero | five | ⟨kind, phase⟩ := fault
    · simp [Unit96.spellsFormatFault, feedKind_invalid (.inl zero)]
    · simp [Unit96.spellsFormatFault, feedKind_invalid (.inr five)]
    · obtain zero | one | two : u.header[0].toNat = 0 ∨ u.header[0].toNat = 1 ∨ u.header[0].toNat = 2 := by omega
      · simp [Unit96.spellsFormatFault, feedKind_invalid (.inl zero)]
      · simp [Unit96.spellsFormatFault, feedKind_media one, phase_invalid_iff, phase]
      · simp [Unit96.spellsFormatFault, feedKind_mgmt two, phase_invalid_iff, phase]
  · have nobody : u.stream = 4095 ∨ ∀ p, s.matches p u = false :=
      unmatched.imp_right fun none p => Bool.eq_false_iff.mpr fun here => by
        obtain ⟨v, home, d, timer, port⟩ := (s.matches_iff p u).mp here
        exact none p v home d timer port
    have untouched : s.deliver u = s := State.deliver_unmatched nobody
    have run : exec (.mediaUnit u) s = .next (s.untied fun t => t.deliver u) := asRow_spelled (spellsMedia_of kind phase) _
    rw [run, State.untied_silent (by rw [untouched]) (by rw [untouched]), untouched]

end Sys2Proof.Machine
end

section
/-! MD's refusals (R28 to R30, R173), the refusals of a TABLE_DATA (R34), the desk orders (R120, R121), and what RL does
with a request before its owner sees it (R163 to R165). -/

namespace Sys2Proof.Machine

/-! ## The coded fields (R173) -/

theorem keyLoadFieldsOk_false {u : Unit96}
    (bad : 1023 ≤ u.word16 3 ∨ (u.body[5].toNat ≠ 1 ∧ u.body[5].toNat ≠ 2)) : keyLoadFieldsOk u = false := by
  obtain group | ⟨notA, notB⟩ := bad
  · have beyond : ¬ u.word16 3 ≤ 1022 := by omega
    simp [keyLoadFieldsOk, keyGroupField, beyond]
  · have none : keyPhaseField u = none := by
      unfold keyPhaseField
      rw [u.byte_eq_getElem (by decide)]
      split
      · next a => exact absurd a notA
      · next b => exact absurd b notB
      · rfl
    simp [keyLoadFieldsOk, none]

theorem keyPurgeFieldsOk_false {u : Unit96} (bad : 1023 ≤ u.word16 3) : keyPurgeFieldsOk u = false := by
  have beyond : ¬ u.word16 3 ≤ 1022 := by omega
  simp [keyPurgeFieldsOk, keyGroupField, beyond]

theorem tableField_none {u : Unit96} (bad : u.body[3].toNat = 0 ∨ 4 ≤ u.body[3].toNat) : tableField u = none := by
  unfold tableField
  rw [u.byte_eq_getElem (by decide)]
  split
  · omega
  · omega
  · omega
  · rfl

theorem order_eq (u : Unit96) : u.order = u.body[3].toNat := congrArg BitVec.toNat (u.byte_eq_getElem (by decide))

theorem variant_eq (u : Unit96) : u.variant = u.body[3].toNat := congrArg BitVec.toNat (u.byte_eq_getElem (by decide))

theorem orderOk_iff (u : Unit96) : orderOk u = true ↔ 1 ≤ u.body[3].toNat ∧ u.body[3].toNat ≤ 6 := by
  simp [orderOk, order_eq]

theorem variantOk_iff (u : Unit96) : variantOk u = true ↔ u.body[3].toNat = 1 ∨ u.body[3].toNat = 2 := by
  simp [variantOk, variant_eq]

theorem spellsSetCeiling_of {u : Unit96} (kind : u.spellsMgmt 9 = true)
    (order : u.body[3].toNat < 2 ∨ 6 < u.body[3].toNat) : u.spellsSetCeiling = true := by
  simp only [Unit96.spellsSetCeiling, kind, order_eq, Bool.true_and, Bool.not_eq_true', Bool.and_eq_false_iff,
    decide_eq_false_iff_not]
  omega

theorem spellsOrder_of {u : Unit96} {n : Nat} (kind : u.spellsMgmt 9 = true) (order : u.body[3].toNat = n) :
    u.spellsOrder n = true := by
  simp [Unit96.spellsOrder, kind, order_eq, order]

theorem spellsPollBilling_of {u : Unit96} (kind : u.spellsMgmt 11 = true) (variant : u.body[3].toNat ≠ 2) :
    u.spellsPollBilling = true := by
  simp [Unit96.spellsPollBilling, kind, variant_eq, variant]

theorem spellsPollCapture_of {u : Unit96} (kind : u.spellsMgmt 11 = true) (variant : u.body[3].toNat = 2) :
    u.spellsPollCapture = true := by
  simp [Unit96.spellsPollCapture, kind, variant_eq, variant]

/-- R29: a unit that is not addressed to the room's number. -/
theorem State.addressedToRoom_false {s : State} {u : Unit96}
    (elsewhere : ¬ (u.body[0].toNat * 256 + u.body[1].toNat ≠ 0 ∧ u.body[0].toNat * 256 + u.body[1].toNat = s.room.toNat)) :
    s.addressedToRoom u = false := by
  rw [← destination_eq] at elsewhere
  simpa [State.addressedToRoom, Bool.eq_false_iff] using elsewhere

/-! ## The refusals (R28 to R30) -/

/-- R28: a kind outside the table is refused by its row's owner. -/
theorem exec_badKind {u : Unit96} {s : State} (spelled : u.spellsBadKind = true) (taken : s.Takes u) :
    exec (.badKind u) s = .next { s with md := s.refusedMd u .badKind true } := by
  have run : exec (.badKind u) s = .next (s.closeBurst.refuse u .badKind) := managed spelled taken rfl
  rw [run, State.closeBurst_refuse_eq_refusedMd]

theorem spellsBadKind_of {u : Unit96} (feed : u.header[0].toNat = 2) (phase : u.header[3].toNat / 64 ≠ 3)
    (kind : u.body[2].toNat = 0 ∨ 14 ≤ u.body[2].toNat) : u.spellsBadKind = true := by
  simp [Unit96.spellsBadKind, feedKind_mgmt feed, phase_invalid_iff, phase, u.byte_eq_getElem (show 2 < 88 by decide), kind]

/-- Settles O11: each bad field fails its row's test, and `managed_badField` and `managed_roomOnly` say what MD leaves. -/
theorem managementRefusals : Obligations.ManagementRefusals := by
  intro u s feed phase taken kind group forRoom refused
  have group_eq : u.word16 3 = group := u.word16_eq_getElem (by decide)
  have spelled {k : Nat} (code : kind = k) : u.spellsMgmt k = true := spellsMgmt_of feed phase code
  refine ⟨fun bad => exec_badKind (spellsBadKind_of feed phase bad) taken, fun code bad => ?_, fun code one bad => ?_,
    fun code bad => ?_, fun code bad => ?_, fun code bad => ?_, fun code billing elsewhere => ?_,
    fun code capture elsewhere => ?_, fun code elsewhere => ?_⟩
  · have fields := keyLoadFieldsOk_false (group_eq ▸ bad)
    show asRow _ (s.manage u ⟨false, false, keyLoadFieldsOk u⟩ _) = _
    rw [fields]
    exact managed_badField (spelled code) taken
  · have fields := keyPurgeFieldsOk_false (group_eq ▸ bad)
    have clear : u.spellsPurge false = true := by
      have even : u.bit 5 0 = false := by
        rw [Unit96.bit, u.byte_eq_getElem (by decide), BitVec.getLsbD, Nat.testBit_zero, one]
        rfl
      simp [Unit96.spellsPurge, spelled code, even]
    show asRow _ (s.manage u ⟨false, false, keyPurgeFieldsOk u⟩ _) = _
    rw [fields]
    exact managed_badField clear taken
  · show asRow _ (s.manage u ⟨true, false, (tableField u).isSome⟩ _) = _
    rw [tableField_none bad]
    exact managed_badField (spelled code) taken
  · have fields : orderOk u = false := Bool.eq_false_iff.mpr fun ok => by
      have range := (orderOk_iff u).mp ok
      omega
    show asRow _ (s.manage u ⟨true, false, orderOk u⟩ _) = _
    rw [fields]
    exact managed_badField (spellsSetCeiling_of (spelled code) (by omega)) taken
  · have fields : variantOk u = false := Bool.eq_false_iff.mpr fun ok => by
      have range := (variantOk_iff u).mp ok
      omega
    show asRow _ (s.manage u ⟨false, true, variantOk u⟩ _) = _
    rw [fields]
    exact managed_badField (spellsPollBilling_of (spelled code) (by omega)) taken
  · show asRow _ (s.manage u ⟨false, true, variantOk u⟩ _) = _
    rw [(variantOk_iff u).mpr (.inl billing)]
    exact managed_roomOnly (spellsPollBilling_of (spelled code) (by omega)) taken (State.addressedToRoom_false elsewhere)
  · show asRow _ (s.manage u ⟨false, true, variantOk u⟩ _) = _
    rw [(variantOk_iff u).mpr (.inr capture)]
    exact managed_roomOnly (spellsPollCapture_of (spelled code) capture) taken (State.addressedToRoom_false elsewhere)
  · exact managed_roomOnly (spelled code) taken (State.addressedToRoom_false elsewhere)

/-! ## TABLE_DATA (R34) -/

/-- R34: a TABLE_DATA that is taken runs as an event not tied to a request. -/
theorem exec_tableData {u : Unit96} {s : State} (spelled : u.spellsMgmt 5 = true) (taken : s.Takes u) :
    exec (.tableData u) s = .next (s.untied fun t => t.takeData u) := managed spelled taken rfl

/-- R34, steps 1 and 2: a unit that MD refuses makes no link unit. -/
theorem exec_tableData_refused {u : Unit96} {s : State} {reason : RefusalReason} (spelled : u.spellsMgmt 5 = true)
    (taken : s.Takes u) (refused : s.takeData u = s.refuse u reason) :
    exec (.tableData u) s = .next { s with md := s.refusedMd u reason false } := by
  rw [exec_tableData spelled taken, State.untied_silent (by rw [refused]; rfl) (by rw [refused]; rfl), refused,
    State.refuse_eq_refusedMd]

theorem dataTag_eq (u : Unit96) : dataTag u = u.body[3] := u.byte_eq_getElem (by decide)

theorem dataCount_eq (u : Unit96) : dataCount u = u.body[4].toNat := congrArg BitVec.toNat (u.byte_eq_getElem (by decide))

/-- R34: of a matching tag and a count in range, every entry is taken. -/
theorem State.takeData_taken {u : Unit96} {s : State} {b : Burst} (open' : s.md.burst = some b) (tag : b.tag = u.body[3])
    (some' : 1 ≤ u.body[4].toNat) (few : u.body[4].toNat ≤ b.table.maxEntries) :
    s.takeData u = (List.range u.body[4].toNat).foldl (State.takeEntry u b.table) s := by
  have range : ¬ (u.body[4].toNat = 0 ∨ b.table.maxEntries < u.body[4].toNat) := by omega
  simp [State.takeData, open', dataTag_eq, dataCount_eq, tag, range]

/-- Settles O14: the two tests of `State.takeData` before any entry. -/
theorem tableDataRefusals : Obligations.TableDataRefusals := by
  intro u s spelled taken
  refine ⟨fun closed => ?_, fun b open' tag => ?_, fun b open' tag count => ?_⟩ <;>
    refine exec_tableData_refused spelled taken ?_
  · simp [State.takeData, closed]
  · simp [State.takeData, open', dataTag_eq, tag]
  · have range : dataCount u = 0 ∨ b.table.maxEntries < dataCount u := by
      rw [dataCount_eq]
      cases table : b.table <;> rw [table] at count <;> exact count
    simp [State.takeData, open', dataTag_eq, tag, range]

/-! ## A request that is taken (R163 to R165) -/

theorem requestKind_eq (u : Unit96) : requestKind u = u.body[0] := u.byte_eq_getElem (by decide)

/-- R163: the one reply, in the words of the statements. -/
theorem State.answer_eq (s : State) (u : Unit96) (code : ReplyCode) (detail : Nat) :
    s.answer u code detail = s.send (replyTo u code detail) := by
  rw [State.answer, replyPort, requestKind_eq]
  rfl

/-- R164: a request that is answered with no other unit. -/
theorem State.countRequest_answer (s : State) (u : Unit96) (code : ReplyCode) (detail : Nat) :
    s.countRequest.answer u code detail = { s with rl := s.answeredRl [] (replyTo u code detail) } := by
  rw [State.answer_eq, State.answeredRl, List.append_nil]
  rfl

/-- R164: a row whose owner answers the request at once. -/
theorem exec_answered {c : Instr} {s t : State} {u : Unit96} {code : ReplyCode} {detail : Nat}
    (run : exec c s = .next t) (answers : t = s.countRequest.answer u code detail) :
    exec c s = .next { s with rl := s.answeredRl [] (replyTo u code detail) } := by
  rw [run, answers, State.countRequest_answer]

/-- R164: while fewer than 8 requests are unanswered a request reaches its owner, counted. -/
theorem received {spelled : Bool} {s : State} {u : Unit96} (owner : State → State) (spells : spelled = true)
    (room : s.rl.unanswered < 8) : asRow spelled (s.receive u owner) = .next (owner s.countRequest) := by
  rw [asRow_spelled spells, State.receive_open u owner room]

theorem State.checked_pass {s : State} {u : Unit96} {ok : Bool} (owner : State → State) (passes : ok = true) :
    s.checked u ok owner = owner s := if_pos passes

/-- R165. -/
theorem State.checked_fail {s : State} {u : Unit96} {ok : Bool} (owner : State → State) (fails : ok = false) :
    s.checked u ok owner = s.answer u .badRequest 0 := if_neg (by simp [fails])

theorem portOk_iff (u : Unit96) : portOk u = true ↔ u.header[1].toNat ≤ 3 := by simp [portOk]

theorem portOk_of {u : Unit96} {p : Port} (named : u.header[1].toNat = p.val) : portOk u = true := by
  rw [portOk_iff]
  omega

theorem portField_of {u : Unit96} {p : Port} (named : u.header[1].toNat = p.val) : portField u = p := by
  rw [portField, named]
  exact Fin.ext (Nat.mod_eq_of_lt p.isLt)

theorem channelOk_iff (u : Unit96) : channelOk u = true ↔ u.word16 1 ≤ 255 := by simp [channelOk]

/-! ## The desk orders and a frozen lock (R111, R120, R121) -/

/-- R120, R121: an order that writes the lock alone. -/
theorem exec_order {u : Unit96} {s : State} {n : Nat} {write : LockUnit → LockUnit} (kind : u.spellsMgmt 9 = true)
    (taken : s.Takes u) (order : u.body[3].toNat = n) (range : 1 ≤ n ∧ n ≤ 6) :
    asRow (u.spellsOrder n) (s.manage u ⟨true, false, orderOk u⟩ fun t => { t with lu := write t.lu }) =
      .next { s with md := s.closedMd, lu := write s.lu } :=
  managed (spellsOrder_of kind order) taken ((orderOk_iff u).mpr (order ▸ range))

/-- R117: the end of an unlock writes no other field of the lock. -/
theorem State.endUnlock_lu (s : State) (p : Port) :
    (s.endUnlock p).lu = { s.lu with unlocks := s.lu.unlocks.set p none } := by
  unfold State.endUnlock State.reevaluate
  split
  · rw [State.migrate_lu, State.announce_lu, (State.reevaluatePort_ports _ p).lu]
    rfl
  · next idle =>
    have none : s.lu.unlocks[p.val] = none := by simpa [State.hasUnlock] using idle
    rw [← none, Vector.set_getElem_self]

/-- R111: RELOCK, in every lock condition. -/
theorem exec_relock {u : Unit96} {s : State} {p : Port} (spelled : u.spellsRequest 8 = true) (room : s.rl.unanswered < 8)
    (named : u.header[1].toNat = p.val) :
    exec (.relock u) s = .next ((s.countRequest.endUnlock p).send (replyTo u .ok 0)) := by
  have run : exec (.relock u) s = .next (s.countRequest.requestRelock u) := received _ spelled room
  rw [run, State.requestRelock, State.checked_pass _ (portOk_of named), portField_of named, State.answer_eq]

/-- Settles O30: an order is one write of the lock (`exec_order`); the frozen flag is the first test of the three
requests that read it, and RELOCK reads none of the lock's conditions (`exec_relock`). -/
theorem deskOrdersWriteTheLock : Obligations.DeskOrdersWriteTheLock := by
  refine ⟨fun u s kind taken => ⟨fun order => ?_, fun order => ?_, fun order => ?_, fun order => ?_⟩,
    fun u s frozen room => ⟨fun spelled port pin => ?_, fun spelled old new => ?_, fun spelled pin => ?_,
      fun p spelled named => ⟨_, exec_relock spelled room named, s.countRequest.endUnlock_lu p, by simp⟩⟩⟩
  · exact exec_order (write := LockUnit.clearPin) kind taken order (by decide)
  · exact exec_order (write := fun lu => { lu with lockout := none }) kind taken order (by decide)
  · exact exec_order (write := fun lu => { lu with frozen := true }) kind taken order (by decide)
  · exact exec_order (write := fun lu => { lu with frozen := false }) kind taken order (by decide)
  · refine exec_answered (t := s.countRequest.requestPinUnlock u) (received _ spelled room) ?_
    rw [State.requestPinUnlock, State.checked_pass _ (by rw [(portOk_iff u).mpr port, pin]; rfl)]
    exact if_pos frozen
  · refine exec_answered (t := s.countRequest.requestPinSet u) (received _ spelled room) ?_
    rw [State.requestPinSet, State.checked_pass _ (by rw [old, new]; rfl)]
    exact if_pos frozen
  · refine exec_answered (t := s.countRequest.requestCeiling u) (received _ spelled room) ?_
    rw [State.requestCeiling, State.checked_pass _ pin]
    exact if_pos frozen

end Sys2Proof.Machine
end

section
/-! The figures of tables, credits and reset: a stored entry field by field (R22, R37, R42), the resolved stream (R23),
the credit (R147), and the laws right after reset. -/

namespace Sys2Proof.Machine

/-! ## Reset -/

/-- Settles O53: every list, table and way is empty after reset, and each counter is 0. -/
theorem resetMeetsTheLaws : Obligations.ResetMeetsTheLaws := by
  have off (p : Port) : State.reset.port p = .off := by simp [State.port, State.reset]
  have set (i : Fin 32) : State.reset.ks.sets[i] = KeySet.empty := by simp [State.reset]
  have entries : State.reset.ks.entries = [] := by simp [KeyStore.entries, State.reset, KeySet.empty]
  refine ⟨by decide, by decide, by decide, by decide, by decide, fun p => ?_, fun p => ?_, fun p => ?_,
    ⟨fun i => ?_, by simp [State.reset], by simp [entries]⟩, by simp [State.SlotLaw, State.reset],
    ⟨fun c e held => ?_, fun k e held => ?_, fun i e held => ?_, by simp [State.reset]⟩, ⟨by decide, by simp [reset_dueEvents]⟩,
    by decide, by decide, by decide, by decide⟩
  · simp [State.portLawful, off]
  · simp [State.streamTrue, off]
  · simp [PortRecord.timed, off]
  · simp [set, wayLawful, KeySet.empty]
  · simp [State.entry, State.reset] at held
  · simp [State.price, State.reset] at held
  · simp [State.reset] at held

/-! ## The resolved stream (R23) -/

theorem RemapEntry.covers_iff (e : RemapEntry) (stream : Nat) :
    e.covers stream = true ↔ e.first ≤ stream ∧ stream ≤ e.first + e.count - 1 := by
  simp [RemapEntry.covers]

/-- R23: the entries of a table that do not hold the stream are passed by. -/
theorem resolveIn_append {before after : List (Option RemapEntry)} {stream : Nat}
    (passed : ∀ e, some e ∈ before → e.covers stream = false) : resolveIn (before ++ after) stream = resolveIn after stream := by
  induction before with
  | nil => rfl
  | cons x xs ih =>
    have rest := ih fun e m => passed e (List.mem_cons_of_mem x m)
    cases x with
    | none => exact rest
    | some e => simp [resolveIn, passed e (List.mem_cons_self ..), rest]

/-- Settles O20: the entries before the first that holds the stream are passed by (`resolveIn_append`). -/
theorem resolvedStreamIsTheFirstMatch : Obligations.ResolvedStreamIsTheFirstMatch := by
  intro table stream holds
  have passed {l : List (Option RemapEntry)} (none : ∀ e, some e ∈ l → ¬ holds e) :
      ∀ e, some e ∈ l → e.covers stream = false :=
    fun e m => Bool.eq_false_iff.mpr fun covers => none e m ((e.covers_iff stream).mp covers)
  refine ⟨fun none => ?_, fun before e after split here first => ?_⟩
  · have all := resolveIn_append (after := []) (passed none)
    rwa [List.append_nil] at all
  · rw [split, resolveIn_append (passed first)]
    simp [resolveIn, (e.covers_iff stream).mpr here]

/-! ## The credit (R147) -/

/-- Settles O43: the three cases of `creditOf`; in the last the credit is the quotient of a product below half of the
charge's. -/
theorem creditOfAnOutage : Obligations.CreditOfAnOutage := by
  intro charge outage window long credit
  refine ⟨fun short => if_pos short, fun least half => ?_, fun least below => ?_, creditOf_le charge outage window⟩
  · have notShort : ¬ outage < 120 := by omega
    simp [credit, creditOf, notShort, half]
  · have notShort : ¬ outage < 120 := by omega
    have notHalf : ¬ window ≤ 2 * outage := by omega
    have quotient : credit = charge * outage / window := by simp [credit, creditOf, notShort, notHalf]
    have floor : credit * window ≤ charge * outage := by
      rw [quotient]
      exact Nat.div_mul_le_self _ _
    have next : charge * outage < (credit + 1) * window := by
      rw [quotient]
      exact Nat.lt_mul_of_div_lt (Nat.lt_succ_self _) (by omega)
    refine ⟨floor, next, ?_⟩
    have doubled : 2 * credit * window ≤ charge * window := by
      calc 2 * credit * window = 2 * (credit * window) := Nat.mul_assoc ..
        _ ≤ 2 * (charge * outage) := Nat.mul_le_mul_left 2 floor
        _ = charge * (2 * outage) := by rw [Nat.mul_left_comm]
        _ ≤ charge * window := Nat.mul_le_mul_left charge (Nat.le_of_lt below)
    exact Nat.le_of_mul_le_mul_right doubled (by omega)

end Sys2Proof.Machine
end

section
/-! The entries of the three tables as stored (R22, R37, R42, R172), field by field. -/

namespace Sys2Proof.Machine

/-! ## Fields of a few bits -/

theorem bit_zero (u : Unit96) (n : Nat) : u.bit n 0 = decide ((u.byte n).toNat % 2 = 1) := by
  rw [Unit96.bit, BitVec.getLsbD, Nat.testBit_zero]

theorem not_bit_zero (u : Unit96) (n : Nat) : (!u.bit n 0) = decide ((u.byte n).toNat % 2 = 0) := by
  rw [bit_zero, ← decide_not, decide_eq_decide]
  omega

theorem bit_one (u : Unit96) (n : Nat) : u.bit n 1 = decide ((u.byte n).toNat / 2 % 2 = 1) := by
  rw [Unit96.bit, BitVec.getLsbD, Nat.testBit_succ, Nat.testBit_zero]

theorem bit_seven (u : Unit96) (n : Nat) : u.bit n 7 = decide (128 ≤ (u.byte n).toNat) := by
  have byte : (u.byte n).toNat < 256 := (u.byte n).isLt
  have top : (u.byte n).toNat / 2 ^ 7 = 1 ↔ 128 ≤ (u.byte n).toNat := by omega
  rw [Unit96.bit, BitVec.getLsbD, Nat.testBit_eq_decide_div_mod_eq, decide_eq_decide, ← top]
  omega

/-- R172: the low 12 bits of a field of two bytes. -/
theorem word16_low12 (u : Unit96) (n : Nat) : u.word16 n % 4096 = (u.byte n).toNat % 16 * 256 + (u.byte (n + 1)).toNat := by
  have byte : (u.byte (n + 1)).toNat < 256 := (u.byte (n + 1)).isLt
  rw [Unit96.word16]
  omega

theorem word16_low10 (u : Unit96) (n : Nat) : u.word16 n % 1024 = (u.byte n).toNat % 4 * 256 + (u.byte (n + 1)).toNat := by
  have byte : (u.byte (n + 1)).toNat < 256 := (u.byte (n + 1)).isLt
  rw [Unit96.word16]
  omega

/-! ## The Service Map (R37) -/

/-- R37: when an entry is stored ABSENT. -/
theorem serviceEntry_absent_iff (u : Unit96) (n : Nat) :
    (!u.bit n 0 || u.word16 (n + 1) % 4096 == 0 || u.word16 (n + 1) % 4096 == 4095) = true ↔
      (u.byte n).toNat % 2 = 0 ∨ (u.byte (n + 1)).toNat % 16 * 256 + (u.byte (n + 2)).toNat = 0 ∨
        (u.byte (n + 1)).toNat % 16 * 256 + (u.byte (n + 2)).toNat = 4095 := by
  rw [word16_low12, not_bit_zero, Bool.or_eq_true, Bool.or_eq_true, beq_iff_eq, beq_iff_eq, decide_eq_true_iff, or_assoc]

/-- Settles O18: `serviceEntry` by its guard (`serviceEntry_absent_iff`), each field read as a whole number. -/
theorem serviceEntryClamps : Obligations.ServiceEntryClamps := by
  intro u n stream group title tier absent
  have stream_eq : u.word16 (n + 1) % 4096 = stream := word16_low12 u (n + 1)
  have group_eq : u.word16 (n + 3) % 1024 = group := word16_low10 u (n + 3)
  refine ⟨fun gone => if_pos ((serviceEntry_absent_iff u n).mpr gone), fun present => ?_⟩
  refine ⟨_, if_neg (mt (serviceEntry_absent_iff u n).mp present), stream_eq, ?_, ?_, ?_, rfl, fun house => ?_, fun free => ?_, fun package => ?_, fun film none => ?_,
    fun film some => ?_⟩
  · show 1 ≤ u.word16 (n + 1) % 4096
    omega
  · show u.word16 (n + 1) % 4096 ≤ 4094
    have below : u.word16 (n + 1) % 4096 < 4096 := Nat.mod_lt _ (by decide)
    omega
  · show (if u.word16 (n + 3) % 1024 = 1023 then none else some (u.word16 (n + 3) % 1024)) = _
    rw [group_eq]
  · have field (p : Fin 16) (k : PriceCode) : tierField ((u.byte n).toNat / 2) p (u.word16 (n + 6)) k = .house := by
      simp only [tierField, show (u.byte n).toNat / 2 % 4 = 0 from house]
    simp only [field]
  · have field (p : Fin 16) (k : PriceCode) : tierField ((u.byte n).toNat / 2) p (u.word16 (n + 6)) k = .free := by
      simp only [tierField, show (u.byte n).toNat / 2 % 4 = 1 from free]
    simp only [field]
  · have field (p : Fin 16) (k : PriceCode) : tierField ((u.byte n).toNat / 2) p (u.word16 (n + 6)) k = .package p := by
      simp only [tierField, show (u.byte n).toNat / 2 % 4 = 2 from package]
    have byte : (u.byte n).toNat < 256 := (u.byte n).isLt
    refine ⟨Fin.ofNat 16 ((u.byte n).toNat / 16), Nat.mod_eq_of_lt (by omega), ?_⟩
    simp only [field]
  · have field (p : Fin 16) (k : PriceCode) : tierField ((u.byte n).toNat / 2) p (u.word16 (n + 6)) k = .film title k := by
      simp only [tierField, show (u.byte n).toNat / 2 % 4 = 3 from film]
      rfl
    simp only [field, none]
  · have field (p : Fin 16) (k : PriceCode) : tierField ((u.byte n).toNat / 2) p (u.word16 (n + 6)) k = .film title k := by
      simp only [tierField, show (u.byte n).toNat / 2 % 4 = 3 from film]
      rfl
    refine ⟨Fin.ofNat 32 (u.byte (n + 8)).toNat, rfl, ?_⟩
    simp only [field]
    split
    · next zero =>
      injection zero with zero
      exact absurd zero some
    · rfl

/-! ## The Price Table (R42) -/

/-- R42: a present entry field by field. -/
theorem priceEntry_present {u : Unit96} {n : Nat} (present : 128 ≤ (u.byte (n + 8)).toNat) : priceEntry u n = some {
    standard := u.word16 n
    offPeak := u.word16 (n + 2)
    bandStart := min (u.word24 (n + 4) / 4096) 1439
    bandEnd := min (u.word24 (n + 4) % 4096) 1439
    tax := min (u.byte (n + 7)).toNat 250
    preview := min (u.word16 (n + 8) % 32768) 600
    window := clampTo 600 86400 (u.word24 (n + 10)) } := by
  rw [priceEntry, bit_seven, decide_eq_true present]
  rfl

theorem priceEntry_absent {u : Unit96} {n : Nat} (absent : (u.byte (n + 8)).toNat < 128) : priceEntry u n = none := by
  rw [priceEntry, bit_seven, decide_eq_false (by omega)]
  rfl

/-! ## The Stream Remap Table (R22) -/

/-- R22: when an entry is stored absent. -/
theorem remapEntry_absent_iff (u : Unit96) (n : Nat) :
    (!u.bit n 0 || u.word16 (n + 1) % 4096 == 0 || u.word16 (n + 1) % 4096 == 4095 || u.word16 (n + 5) % 4096 == 0 ||
        u.word16 (n + 5) % 4096 == 4095) = true ↔
      (u.byte n).toNat % 2 = 0 ∨ (u.byte (n + 1)).toNat % 16 * 256 + (u.byte (n + 2)).toNat = 0 ∨
        (u.byte (n + 1)).toNat % 16 * 256 + (u.byte (n + 2)).toNat = 4095 ∨
        (u.byte (n + 5)).toNat % 16 * 256 + (u.byte (n + 6)).toNat = 0 ∨
        (u.byte (n + 5)).toNat % 16 * 256 + (u.byte (n + 6)).toNat = 4095 := by
  rw [word16_low12, word16_low12, not_bit_zero, Bool.or_eq_true, Bool.or_eq_true, Bool.or_eq_true, Bool.or_eq_true,
    beq_iff_eq, beq_iff_eq, beq_iff_eq, beq_iff_eq, decide_eq_true_iff, or_assoc, or_assoc, or_assoc]

/-- R22: a count as stored is the wanted one, or the greatest with which both ranges end at or below 4094. -/
theorem clampRemapCount_spec {first target : Nat} (firsts : 1 ≤ first ∧ first ≤ 4094) (targets : 1 ≤ target ∧ target ≤ 4094)
    (count : Nat) :
    let stored := clampRemapCount first target count
    let wanted := if count = 0 then 1 else if 256 < count then 256 else count
    1 ≤ stored ∧ first + stored - 1 ≤ 4094 ∧ target + stored - 1 ≤ 4094 ∧ stored ≤ wanted ∧
      (stored < wanted → first + stored - 1 = 4094 ∨ target + stored - 1 = 4094) := by
  intro stored wanted
  have wanted_eq : clampTo 1 256 count = wanted := by
    simp only [clampTo, wanted]
    split_ifs <;> omega
  have positive : 1 ≤ wanted := by
    simp only [wanted]
    split_ifs <;> omega
  have stored_eq : stored = min wanted (min (4095 - first) (4095 - target)) := by
    simp only [stored, clampRemapCount, wanted_eq]
  omega

/-- Settles O19: a present Price Table entry is `priceEntry_present`, and a remap count `clampRemapCount_spec`. -/
theorem priceAndRemapEntryClamps : Obligations.PriceAndRemapEntryClamps := by
  intro u n b
  refine ⟨fun absent => priceEntry_absent absent, fun present => ⟨_, priceEntry_present present, rfl, rfl, ?_, ?_, rfl, ?_, rfl⟩, ?_⟩
  · have mid : (u.byte (n + 4 + 1)).toNat < 256 := (u.byte (n + 4 + 1)).isLt
    have low : (u.byte (n + 4 + 2)).toNat < 256 := (u.byte (n + 4 + 2)).isLt
    show min ((((u.byte (n + 4)).toNat * 256 + (u.byte (n + 4 + 1)).toNat) * 256 + (u.byte (n + 4 + 2)).toNat) / 4096) 1439 =
      min ((u.byte (n + 4)).toNat * 16 + (u.byte (n + 4 + 1)).toNat / 16) 1439
    omega
  · have mid : (u.byte (n + 4 + 1)).toNat < 256 := (u.byte (n + 4 + 1)).isLt
    have low : (u.byte (n + 4 + 2)).toNat < 256 := (u.byte (n + 4 + 2)).isLt
    show min ((((u.byte (n + 4)).toNat * 256 + (u.byte (n + 4 + 1)).toNat) * 256 + (u.byte (n + 4 + 2)).toNat) % 4096) 1439 =
      min ((u.byte (n + 4 + 1)).toNat % 16 * 256 + (u.byte (n + 4 + 2)).toNat) 1439
    omega
  · have byte : (u.byte (n + 8)).toNat < 256 := (u.byte (n + 8)).isLt
    have low : (u.byte (n + 8 + 1)).toNat < 256 := (u.byte (n + 8 + 1)).isLt
    have high : 128 ≤ (u.byte (n + 8)).toNat := present
    show min (((u.byte (n + 8)).toNat * 256 + (u.byte (n + 8 + 1)).toNat) % 32768) 600 =
      min (((u.byte (n + 8)).toNat - 128) * 256 + (u.byte (n + 8 + 1)).toNat) 600
    omega
  · intro first target count absent
    have first_eq : u.word16 (n + 1) % 4096 = first := word16_low12 u (n + 1)
    have target_eq : u.word16 (n + 5) % 4096 = target := word16_low12 u (n + 5)
    refine ⟨fun gone => if_pos ((remapEntry_absent_iff u n).mpr gone), fun present => ?_⟩
    have first_lt : u.word16 (n + 1) % 4096 < 4096 := Nat.mod_lt _ (by decide)
    have target_lt : u.word16 (n + 5) % 4096 < 4096 := Nat.mod_lt _ (by decide)
    have spec := clampRemapCount_spec (first := first) (target := target) (by omega) (by omega) count
    refine ⟨_, if_neg (mt (remapEntry_absent_iff u n).mp present), first_eq, target_eq, ?_⟩
    show 1 ≤ clampRemapCount (u.word16 (n + 1) % 4096) (u.word16 (n + 5) % 4096) count ∧ _
    rw [first_eq, target_eq]
    exact spec

end Sys2Proof.Machine
end

section
/-! The requests that are refused, held back or taken again (R108 to R112, R127 to R129, R133, R164, R165, R175), and
LINK_UNIT_SENT (R167). -/

namespace Sys2Proof.Machine

/-! ## The lock requests before a PIN is compared (R108 to R110) -/

theorem ceilingField_eq (u : Unit96) : ceilingField u = min u.body[1].toNat 7 := by
  rw [ceilingField, u.byte_eq_getElem (by decide)]

theorem State.isOccupied_iff (s : State) : s.isOccupied = true ↔ s.su.occupancy = .occupied := beq_iff_eq

/-- R108: PIN_UNLOCK that passes RL's check and finds the lock unfrozen with a PIN. -/
theorem State.requestPinUnlock_frozen {s : State} {u : Unit96} (ok : (portOk u && pinOk u 3) = true)
    (frozen : s.lu.frozen = true) : s.requestPinUnlock u = s.answer u .frozen 0 := by
  rw [State.requestPinUnlock, State.checked_pass _ ok]
  exact if_pos frozen

theorem State.requestPinUnlock_noPin {s : State} {u : Unit96} (ok : (portOk u && pinOk u 3) = true)
    (thawed : s.lu.frozen = false) (pin : s.lu.pin = none) : s.requestPinUnlock u = s.answer u .noPin 0 := by
  rw [State.requestPinUnlock, State.checked_pass _ ok]
  simp [thawed, pin]

theorem State.requestPinUnlock_lockout {s : State} {u : Unit96} {due : Nat} (ok : (portOk u && pinOk u 3) = true)
    (thawed : s.lu.frozen = false) (pin : s.lu.pin ≠ none) (locked : s.lu.lockout = some due) :
    s.requestPinUnlock u = s.answer u .lockout (due - s.su.clock) := by
  rw [State.requestPinUnlock, State.checked_pass _ ok]
  simp [thawed, pin, locked, State.answerLockout]

/-- R108: the PIN is compared. -/
theorem State.requestPinUnlock_compared {s : State} {u : Unit96} (ok : (portOk u && pinOk u 3) = true)
    (thawed : s.lu.frozen = false) (pin : s.lu.pin ≠ none) (unlocked : s.lu.lockout = none) :
    s.requestPinUnlock u = if s.lu.pinRight (pinField u 3) then
      ((s.unlockPort (portField u) (60 * unlockMinutes u)).answer u .ok (60 * unlockMinutes u)).atTail State.settleHeld
      else (s.answerWrongPin u).atTail State.settleHeld := by
  rw [State.requestPinUnlock, State.checked_pass _ ok]
  simp [thawed, pin, unlocked]

theorem State.requestPinSet_frozen {s : State} {u : Unit96} (ok : (pinOk u 1 && pinOk u 10) = true)
    (frozen : s.lu.frozen = true) : s.requestPinSet u = s.answer u .frozen 0 := by
  rw [State.requestPinSet, State.checked_pass _ ok]
  exact if_pos frozen

theorem State.requestPinSet_notOccupied {s : State} {u : Unit96} (ok : (pinOk u 1 && pinOk u 10) = true)
    (thawed : s.lu.frozen = false) (empty : s.su.occupancy ≠ .occupied) : s.requestPinSet u = s.answer u .notOccupied 0 := by
  rw [State.requestPinSet, State.checked_pass _ ok]
  simp [thawed, empty, State.isOccupied]

theorem State.requestPinSet_lockout {s : State} {u : Unit96} {due : Nat} (ok : (pinOk u 1 && pinOk u 10) = true)
    (thawed : s.lu.frozen = false) (occupied : s.su.occupancy = .occupied) (locked : s.lu.lockout = some due) :
    s.requestPinSet u = s.answer u .lockout (due - s.su.clock) := by
  rw [State.requestPinSet, State.checked_pass _ ok]
  simp [thawed, occupied, locked, State.isOccupied, State.answerLockout]

theorem State.requestPinSet_short {s : State} {u : Unit96} (ok : (pinOk u 1 && pinOk u 10) = true)
    (thawed : s.lu.frozen = false) (occupied : s.su.occupancy = .occupied) (unlocked : s.lu.lockout = none)
    (short : (pinField u 10).length < 4) : s.requestPinSet u = s.answer u .badRequest 0 := by
  rw [State.requestPinSet, State.checked_pass _ ok]
  simp [thawed, occupied, unlocked, State.isOccupied, short]

/-- R109: the PIN offered is compared. -/
theorem State.requestPinSet_compared {s : State} {u : Unit96} (ok : (pinOk u 1 && pinOk u 10) = true)
    (thawed : s.lu.frozen = false) (occupied : s.su.occupancy = .occupied) (unlocked : s.lu.lockout = none)
    (long : 4 ≤ (pinField u 10).length) :
    s.requestPinSet u = if s.lu.pin.isNone || s.lu.pinRight (pinField u 1) then
      ({ s with lu := s.lu.storePin (pinField u 10) } : State).answer u .ok 0
      else (s.answerWrongPin u).atTail State.settleHeld := by
  rw [State.requestPinSet, State.checked_pass _ ok]
  simp [thawed, occupied, unlocked, State.isOccupied, Nat.not_lt.mpr long]

theorem State.requestCeiling_frozen {s : State} {u : Unit96} (ok : pinOk u 2 = true) (frozen : s.lu.frozen = true) :
    s.requestCeiling u = s.answer u .frozen 0 := by
  rw [State.requestCeiling, State.checked_pass _ ok]
  exact if_pos frozen

theorem State.requestCeiling_noPin {s : State} {u : Unit96} (ok : pinOk u 2 = true) (thawed : s.lu.frozen = false)
    (raise : s.lu.ceiling < ceilingField u) (pin : s.lu.pin = none) : s.requestCeiling u = s.answer u .noPin 0 := by
  rw [State.requestCeiling, State.checked_pass _ ok]
  simp [thawed, pin, Nat.not_le.mpr raise]

theorem State.requestCeiling_lockout {s : State} {u : Unit96} {due : Nat} (ok : pinOk u 2 = true) (thawed : s.lu.frozen = false)
    (raise : s.lu.ceiling < ceilingField u) (pin : s.lu.pin ≠ none) (locked : s.lu.lockout = some due) :
    s.requestCeiling u = s.answer u .lockout (due - s.su.clock) := by
  rw [State.requestCeiling, State.checked_pass _ ok]
  simp [thawed, pin, locked, Nat.not_le.mpr raise, State.answerLockout]

/-- R110: a ceiling that is not raised needs no PIN. -/
theorem State.requestCeiling_lower {s : State} {u : Unit96} (ok : pinOk u 2 = true) (thawed : s.lu.frozen = false)
    (lower : ceilingField u ≤ s.lu.ceiling) :
    s.requestCeiling u = (s.setCeiling (ceilingField u)).answer u .ok (ceilingField u) := by
  rw [State.requestCeiling, State.checked_pass _ ok]
  simp [thawed, lower]

/-- R110: for a higher one the PIN is compared. -/
theorem State.requestCeiling_compared {s : State} {u : Unit96} (ok : pinOk u 2 = true) (thawed : s.lu.frozen = false)
    (raise : s.lu.ceiling < ceilingField u) (pin : s.lu.pin ≠ none) (unlocked : s.lu.lockout = none) :
    s.requestCeiling u = if s.lu.pinRight (pinField u 2) then
      (({ s with lu := { s.lu with failures := 0 } } : State).setCeiling (ceilingField u)).answer u .ok (ceilingField u)
      else (s.answerWrongPin u).atTail State.settleHeld := by
  rw [State.requestCeiling, State.checked_pass _ ok]
  simp [thawed, pin, unlocked, Nat.not_le.mpr raise]

theorem exec_pinUnlock {u : Unit96} {s : State} (spelled : u.spellsRequest 5 = true) (room : s.rl.unanswered < 8) :
    exec (.pinUnlock u) s = .next (s.countRequest.requestPinUnlock u) := received _ spelled room

theorem exec_pinSet {u : Unit96} {s : State} (spelled : u.spellsRequest 6 = true) (room : s.rl.unanswered < 8) :
    exec (.pinSet u) s = .next (s.countRequest.requestPinSet u) := received _ spelled room

theorem exec_ceiling {u : Unit96} {s : State} (spelled : u.spellsRequest 7 = true) (room : s.rl.unanswered < 8) :
    exec (.ceiling u) s = .next (s.countRequest.requestCeiling u) := received _ spelled room

/-- Settles O34, refusal by refusal. -/
theorem lockRequestsRefused : Obligations.LockRequestsRefused := by
  intro u s room answers
  refine ⟨fun spelled port pin => ?_, fun spelled old new => ?_, fun spelled pin => ?_⟩
  · have ok : (portOk u && pinOk u 3) = true := by rw [(portOk_iff u).mpr port, pin]; rfl
    refine ⟨fun frozen => ?_, fun thawed none => ?_, fun due thawed set locked => ?_⟩
    · exact exec_answered (exec_pinUnlock spelled room) (State.requestPinUnlock_frozen ok frozen)
    · exact exec_answered (exec_pinUnlock spelled room) (State.requestPinUnlock_noPin ok thawed none)
    · exact exec_answered (exec_pinUnlock spelled room) (State.requestPinUnlock_lockout ok thawed set locked)
  · have ok : (pinOk u 1 && pinOk u 10) = true := by rw [old, new]; rfl
    refine ⟨fun frozen => ?_, fun thawed empty => ?_, fun due thawed occupied locked => ?_,
      fun thawed occupied unlocked short => ?_⟩
    · exact exec_answered (exec_pinSet spelled room) (State.requestPinSet_frozen ok frozen)
    · exact exec_answered (exec_pinSet spelled room) (State.requestPinSet_notOccupied ok thawed empty)
    · exact exec_answered (exec_pinSet spelled room) (State.requestPinSet_lockout ok thawed occupied locked)
    · exact exec_answered (exec_pinSet spelled room) (State.requestPinSet_short ok thawed occupied unlocked short)
  · rw [← ceilingField_eq]
    refine ⟨fun frozen => ?_, fun thawed raise none => ?_, fun due thawed raise set locked => ?_⟩
    · exact exec_answered (exec_ceiling spelled room) (State.requestCeiling_frozen pin frozen)
    · exact exec_answered (exec_ceiling spelled room) (State.requestCeiling_noPin pin thawed raise none)
    · exact exec_answered (exec_ceiling spelled room) (State.requestCeiling_lockout pin thawed raise set locked)

end Sys2Proof.Machine
end

section
/-! The refusals of BUY and CANCEL (R127 to R129, R133), RL's check of every request row (R164, R165, R175), and
LINK_UNIT_SENT (R164, R167). -/

namespace Sys2Proof.Machine

/-! ## BUY and CANCEL (R127 to R129, R133) -/

theorem exec_buy {u : Unit96} {s : State} (spelled : u.spellsRequest 3 = true) (room : s.rl.unanswered < 8) :
    exec (.buy u) s = .next (s.countRequest.requestBuy u) := received _ spelled room

theorem exec_cancel {u : Unit96} {s : State} (spelled : u.spellsRequest 4 = true) (room : s.rl.unanswered < 8) :
    exec (.cancel u) s = .next (s.countRequest.requestCancel u) := received _ spelled room

/-- R165: the port and the channel of a TUNE or a BUY pass RL's check. -/
theorem portAndChannelOk {u : Unit96} {p : Port} (named : u.header[1].toNat = p.val) (channel : u.word16 1 ≤ 255) :
    (portOk u && channelOk u) = true := by
  rw [portOk_of named, (channelOk_iff u).mpr channel]
  rfl

/-- R127, R129: a refused BUY. -/
theorem State.requestBuy_refused {s : State} {u : Unit96} {code : ReplyCode} (ok : (portOk u && channelOk u) = true)
    (refused : s.buyRefusal (portField u) (channelField u) = some code) (plain : code ≠ .shared) :
    s.requestBuy u = s.answer u code 0 := by
  rw [State.requestBuy, State.checked_pass _ ok]
  dsimp only
  rw [refused]
  split
  · next impossible => exact absurd impossible (by simp)
  · next shared => exact absurd (Option.some.inj shared) plain
  · next same => rw [Option.some.inj same]

/-- R128: a shared one. -/
theorem State.requestBuy_shared {s : State} {u : Unit96} (ok : (portOk u && channelOk u) = true)
    (shared : s.buyRefusal (portField u) (channelField u) = some .shared) :
    s.requestBuy u = ((s.tunePort (portField u) (channelField u)).announce s).migrate.answer u .shared 0 := by
  rw [State.requestBuy, State.checked_pass _ ok]
  dsimp only
  rw [shared]

/-- R130: an accepted one. -/
theorem State.requestBuy_accepted {s : State} {u : Unit96} (ok : (portOk u && channelOk u) = true)
    (passes : s.buyRefusal (portField u) (channelField u) = none) :
    s.requestBuy u = ((s.acceptBuy (portField u) (channelField u)).answer u .ok 0).atTail State.settleHeld := by
  rw [State.requestBuy, State.checked_pass _ ok]
  dsimp only
  rw [passes]

section
variable {s : State} {p : Port} {c : Channel}

/-! The checks of a BUY in their order. -/

theorem State.buyRefusal_alert (alert : s.su.alert ≠ none) : s.buyRefusal p c = some .alertActive := by
  simp [State.buyRefusal, Option.isSome_iff_ne_none, alert]

theorem State.buyRefusal_absent (alert : s.su.alert = none) (absent : s.entry c = none) :
    s.buyRefusal p c = some .noChannel := by
  simp [State.buyRefusal, alert, absent]

theorem State.buyRefusal_empty {e : Service} (alert : s.su.alert = none) (entry : s.entry c = some e)
    (empty : s.su.occupancy ≠ .occupied) : s.buyRefusal p c = some .notOccupied := by
  simp [State.buyRefusal, alert, entry, State.isOccupied, empty]

theorem State.buyRefusal_notFilm {e : Service} (alert : s.su.alert = none) (entry : s.entry c = some e)
    (occupied : s.su.occupancy = .occupied) (tier : e.tier.title = none) : s.buyRefusal p c = some .notFilm := by
  cases kind : e.tier with
  | film title k => rw [kind] at tier; exact absurd tier (by simp [Tier.title])
  | _ => simp [State.buyRefusal, alert, entry, State.isOccupied, occupied, kind]

/-- R127, R128: what is left of a BUY's checks once the channel is a film's. -/
theorem State.buyRefusal_film {e : Service} {title : Nat} {k : PriceCode} (alert : s.su.alert = none)
    (entry : s.entry c = some e) (occupied : s.su.occupancy = .occupied) (film : e.tier = .film title k) :
    s.buyRefusal p c =
      if s.effectiveCeiling p < e.rating then some .locked
      else if (s.purchase title).isSome then some .shared
      else if s.bq.hold then some .hold
      else if purchaseMax ≤ s.pu.purchases.length then some .tableFull
      else if s.su.silent && silentBuyMax ≤ s.pu.silentCount then some .silentLimit
      else match s.price k with
        | none => some .noPrice
        | some entry => if withinCap s.su.spend (entry.charge s.su.clock) s.su.cap then none else some .cap := by
  simp only [State.buyRefusal, alert, entry, State.isOccupied, occupied, film, Option.isSome_none, Bool.false_eq_true,
    if_false, beq_self_eq_true, Bool.not_true] <;> rfl

end

/-- R133: a CANCEL with no open purchase on the port's channel. -/
theorem State.requestCancel_none {s : State} {u : Unit96} (ok : portOk u = true) (none : s.cancelTarget (portField u) = none) :
    s.requestCancel u = s.answer u .nothingToCancel 0 := by
  rw [State.requestCancel, State.checked_pass _ ok, none]

/-- R133, R134: a CANCEL of an open purchase. -/
theorem State.requestCancel_some {s : State} {u : Unit96} {e : Purchase} (ok : portOk u = true)
    (held : s.cancelTarget (portField u) = some e) :
    s.requestCancel u = if graceSeconds < s.su.clock - e.start then s.answer u .graceOver 0
      else (s.voidPurchase e).answer u .ok 0 := by
  rw [State.requestCancel, State.checked_pass _ ok, held]

/-- Settles O37: each clause is one check of `State.buyRefusal` or of CANCEL, the checks before it having passed. -/
theorem refusedPurchasesChangeNothing : Obligations.RefusedPurchasesChangeNothing := by
  intro u s p room named channel c answers refused held
  have ok := portAndChannelOk named channel
  refine ⟨fun spelled => ?_, fun spelled => ?_⟩
  · have refuse {code : ReplyCode} (check : s.buyRefusal p c = some code) (plain : code ≠ .shared) : refused code := by
      have check' : s.countRequest.buyRefusal (portField u) (channelField u) = some code := by
        rw [portField_of named]
        exact check
      exact exec_answered (exec_buy spelled room) (State.requestBuy_refused ok check' plain)
    refine ⟨fun alert => refuse (State.buyRefusal_alert alert) (by decide),
      fun alert absent => refuse (State.buyRefusal_absent alert absent) (by decide), fun e alert entry => ?_⟩
    refine ⟨fun empty => refuse (State.buyRefusal_empty alert entry empty) (by decide),
      fun occupied tier => refuse (State.buyRefusal_notFilm alert entry occupied tier) (by decide),
      fun title k occupied film => ?_⟩
    have checks := State.buyRefusal_film (p := p) alert entry occupied film
    refine ⟨fun locked => refuse (by rw [checks, if_pos locked]) (by decide), fun rated fresh => ?_⟩
    rw [if_neg (Nat.not_lt.mpr rated), if_neg (by simp [fresh])] at checks
    refine ⟨fun hold => refuse (by rw [checks, if_pos hold]) (by decide), fun hold full => ?_, fun hold few => ?_⟩ <;>
      rw [if_neg (by simp [hold])] at checks
    · exact refuse (by rw [checks, if_pos full]) (by decide)
    rw [if_neg (Nat.not_le.mpr few)] at checks
    refine ⟨fun silent most => refuse (by rw [checks, if_pos (by simp [silent, most])]) (by decide), fun admitted => ?_⟩
    have admits : ¬ (s.su.silent && decide (silentBuyMax ≤ s.pu.silentCount)) = true := by
      simp only [Bool.and_eq_true, decide_eq_true_eq, silentBuyMax, not_and, Nat.not_le]
      exact fun silent => admitted.resolve_left (by simp [silent])
    rw [if_neg admits] at checks
    refine ⟨fun free => refuse (by rw [checks, free]) (by decide), fun price found dear => refuse ?_ (by decide)⟩
    rw [checks, found]
    exact if_neg (by simpa [withinCap] using dear)
  · have port : s.countRequest.cancelTarget (portField u) = held := by
      rw [portField_of named]
      rfl
    refine ⟨fun none => ?_, fun e some late => ?_⟩
    · exact exec_answered (exec_cancel spelled room) (State.requestCancel_none (portOk_of named) (port.trans none))
    · refine exec_answered (exec_cancel spelled room) ?_
      rw [State.requestCancel_some (portOk_of named) (port.trans some)]
      exact if_pos late

/-! ## Every request row (R163, R164) -/

/-- R165, R175: a request of an unknown kind. -/
theorem State.request_unknown {u : Unit96} (outside : (u.byte 0).toNat = 0 ∨ 13 ≤ (u.byte 0).toNat) (s : State) :
    s.request u = s.requestUnknown u := by
  unfold State.request requestKind
  generalize (u.byte 0).toNat = k at outside
  obtain rfl | beyond := outside
  · rfl
  · obtain ⟨n, rfl⟩ := Nat.exists_eq_add_of_le' beyond
    rfl

/-- R163: a row of the table is RL's taking of a request of its kind. -/
theorem exec_requestRow {u : Unit96} {c : Instr} (h : c ∈ requestRows u) (spelled : c.wellFormed = true) (s : State) :
    exec c s = .next (s.receive u fun t => t.request u) := by
  have known {k : Nat} {owner : State → State} (spells : u.spellsRequest k = true)
      (same : ∀ t : State, (requestKind u).toNat = k → t.request u = owner t) :
      asRow (u.spellsRequest k) (s.receive u owner) = .next (s.receive u fun t => t.request u) := by
    have kind : (requestKind u).toNat = k := by
      simp only [Unit96.spellsRequest, Bool.and_eq_true, beq_iff_eq] at spells
      exact spells.2
    rw [asRow_spelled spells, show owner = fun t => t.request u from funext fun t => (same t kind).symm]
  simp only [requestRows, List.mem_cons, List.not_mem_nil, or_false] at h
  rcases h with rfl | rfl | rfl | rfl | rfl | rfl | rfl | rfl | rfl | rfl | rfl | rfl | rfl
  · have outside := spelled
    simp only [Instr.wellFormed, Unit96.spellsUnknownRequest, Bool.and_eq_true, Bool.or_eq_true, beq_iff_eq,
      decide_eq_true_eq] at outside
    obtain ⟨_, outside⟩ := outside
    show asRow _ (s.receive u fun t => t.requestUnknown u) = _
    rw [asRow_spelled (show u.spellsUnknownRequest = true from spelled), show (fun t : State => t.requestUnknown u) =
      fun t => t.request u from funext fun t => (State.request_unknown outside t).symm]
  all_goals exact known spelled fun t kind => by simp only [State.request, kind]

/-- Settles O52: a request held back is `State.receive`'s, and a failed check `State.checked_fail`'s. -/
theorem requestsAreChecked : Obligations.RequestsAreChecked := by
  intro u s c row spelled badPort badChannel badPin fails
  refine ⟨fun full => ?_, fun room bad => ?_⟩
  · rw [exec_requestRow row spelled, State.receive_held u _ full]
  · have port : badPort → portOk u = false := fun bad => by
      have beyond : ¬ u.header[1].toNat ≤ 3 := Nat.not_le.mpr bad
      simp [portOk, beyond]
    have channel : badChannel → channelOk u = false := fun bad => by
      have beyond : ¬ u.word16 1 ≤ 255 := Nat.not_le.mpr bad
      simp [channelOk, beyond]
    have pin {n : Nat} : badPin n → pinOk u n = false := fun bad => by
      rw [pinOk, Bool.and_eq_false_iff, decide_eq_false_iff_not, List.all_eq_false]
      refine bad.imp Nat.not_le.mpr fun ⟨i, within, digit⟩ => ⟨(u.byte (n + 1 + i)).toNat, ?_, by simpa using digit⟩
      exact List.mem_map.mpr ⟨i, List.mem_range.mpr within, rfl⟩
    have count : u.body[3].toNat = 0 ∨ 16 < u.body[3].toNat → listCountOk u = false := fun bad => by
      rw [listCountOk, listCount, u.byte_eq_getElem (by decide), Bool.and_eq_false_iff, decide_eq_false_iff_not,
        decide_eq_false_iff_not]
      omega
    have refused {ok : Bool} {owner : State → State} (spells : c.wellFormed = true) (no : ok = false)
        (run : exec c s = asRow c.wellFormed (s.receive u fun t => t.checked u ok owner)) :
        exec c s = .next { s with rl := s.answeredRl [] (replyTo u .badRequest 0) } := by
      rw [run, received _ spells room, State.checked_fail _ no, State.countRequest_answer]
    simp only [requestRows, List.mem_cons, List.not_mem_nil, or_false] at row
    rcases row with rfl | rfl | rfl | rfl | rfl | rfl | rfl | rfl | rfl | rfl | rfl | rfl | rfl
    · exact exec_answered (received (fun t => t.requestUnknown u) spelled room) rfl
    · exact refused spelled (Bool.and_eq_false_iff.mpr (bad.imp port channel)) rfl
    · exact refused spelled (port bad) rfl
    · exact refused spelled (Bool.and_eq_false_iff.mpr (bad.imp port channel)) rfl
    · exact refused spelled (port bad) rfl
    · exact refused spelled (Bool.and_eq_false_iff.mpr (bad.imp port pin)) rfl
    · exact refused spelled (Bool.and_eq_false_iff.mpr (bad.imp pin pin)) rfl
    · exact refused spelled (pin bad) rfl
    · exact refused spelled (port bad) rfl
    · refine refused (ok := portOk u && channelOk u && listCountOk u) spelled ?_ rfl
      rw [Bool.and_eq_false_iff, Bool.and_eq_false_iff, or_assoc]
      exact bad.imp port (Or.imp channel count)
    · exact refused spelled (port bad) rfl
    · exact absurd bad id
    · exact absurd bad id

/-! ## LINK_UNIT_SENT (R164, R167) -/

/-- Settles O51: the unit that leaves is `State.linkNext_cons`'s, and a request taken then runs as its own row does
(`exec_requestRow`). -/
theorem linkUnitLeaves : Obligations.LinkUnitLeaves := by
  intro s left
  refine ⟨fun empty => congrArg _ (State.linkNext_empty empty), fun x rest waits => ?_⟩
  have run : exec .linkUnitSent s = .next (s.leave x rest).takeHeld := congrArg _ (State.linkNext_cons waits)
  refine ⟨fun none => ?_, fun quiet full => ?_, fun u us c held reply full row spelled => ?_⟩
  · rw [run, State.takeHeld_none (s := s.leave x rest) none]
    simp only [State.leave, none, left]
  · rw [run, State.takeHeld_full (by simpa [State.leave, quiet] using full)]
    rfl
  · have room : (s.leave x rest).rl.unanswered < 8 := by simp [State.leave, reply, full]
    rw [run, State.takeHeld_open (s := s.leave x rest) held room, exec_requestRow row spelled, State.receive_open (s := left x rest us) _ _ room]
    rfl

end Sys2Proof.Machine
end

section
/-! OFF and the queries (R87, R168), and the listing (R46 to R50). -/

namespace Sys2Proof.Machine

/-! ## Events of one port (R94) -/

/-- R94: where the other ports make no units, the event's units are the port's own. -/
theorem Announced.only {before t : State} {list made : List LinkUnit} (h : Announced before t list made) {p : Port}
    (others : ∀ q, q ≠ p → announced before t q = []) : made = (announced before t p).foldl joinedTo list := by
  obtain ⟨units, own, ports, made⟩ := h
  have all : units.filter (fun u => u.portOf == some p) = units := by
    refine List.filter_eq_self.mpr fun u member => ?_
    cases port : u.portOf with
    | none => exact absurd port (ports u member)
    | some q =>
      by_cases same : q = p
      · simp [same]
      · have nothing := own q
        rw [others q same, List.filter_eq_nil_iff] at nothing
        exact absurd (by simp [port]) (nothing u member)
  rw [made, ← own p, all]

/-- R94: a port that is as it was makes no units. -/
theorem announced_same {before t : State} {q : Port} (port : t.port q = before.port q) (alert : t.su.alert = before.su.alert) :
    announced before t q = [] := by
  rw [announced, if_pos (State.notice_congr port alert), port, List.nil_append]
  cases record : before.port q with
  | blanked r c n => simp [PortRecord.reason, PortRecord.home]
  | _ => rfl

/-- R94: a port's notice in OFF. -/
theorem State.notice_off {s : State} {p : Port} (off : s.port p = .off) :
    s.notice p = { state := .off, reason := none, home := none, shown := none, delivery := none } := by
  rw [State.notice, off]
  rfl

theorem State.notice_off_iff (s : State) (p : Port) :
    s.notice p = { state := .off, reason := none, home := none, shown := none, delivery := none } ↔ s.port p = .off := by
  refine ⟨fun same => ?_, State.notice_off⟩
  have state : (s.port p).state = .off := congrArg NoticeFields.state same
  cases record : s.port p with
  | off => rfl
  | active v home stream d n => rw [record] at state; cases v <;> simp [PortRecord.state] at state
  | blanked r home n => rw [record] at state; simp [PortRecord.state] at state

/-- R87, R94: what a port that comes to OFF makes. -/
theorem announced_off {before t : State} {p : Port} (off : t.port p = .off) :
    announced before t p = if before.port p = .off then []
      else [.notice p { state := .off, reason := none, home := none, shown := none, delivery := none }] := by
  rw [announced, off, List.append_nil, State.notice_off off]
  by_cases was : before.port p = .off
  · rw [if_pos was, if_pos (State.notice_off was).symm]
  · rw [if_neg was, if_neg fun same => was ((before.notice_off_iff p).mp same.symm)]

/-! ## OFF and the queries (R87, R168) -/

theorem exec_off {u : Unit96} {s : State} {p : Port} (spelled : u.spellsRequest 2 = true) (room : s.rl.unanswered < 8)
    (named : u.header[1].toNat = p.val) :
    exec (.off u) s = .next ((s.countRequest.turnOff s.countRequest p).migrate.send (replyTo u .ok 0)) := by
  have run : exec (.off u) s = .next (s.countRequest.requestOff u) := received _ spelled room
  rw [run, State.requestOff, State.checked_pass _ (portOk_of named), portField_of named, State.answer_eq]

/-- R87: the link after a port has been turned OFF. -/
theorem State.turnOff_rl (s : State) (p : Port) : (s.turnOff s p).rl = { s.rl with
    transmit := s.rl.transmit ++ if s.port p = .off then [] else
      [.notice p { state := .off, reason := none, home := none, shown := none, delivery := none }] } := by
  obtain ⟨made, units, link⟩ := State.announce_rl (s := s.setPort p .off) (before := s) (fun _ => rfl) rfl
  have others : ∀ q, q ≠ p → announced s (s.setPort p .off) q = [] := fun q other =>
    announced_same (s.setPort_port_other PortRecord.off other) rfl
  have list := units.only others
  rw [announced_off (State.setPort_port_self s p .off)] at list
  rw [State.turnOff, link, list]
  split_ifs <;> simp [joinedTo]

/-- R168: a notice's fields, in the words of the statements. -/
theorem PortRecord.shown_eq (r : PortRecord) (alert : Option Alert) :
    r.shown alert = if r.state = .alert then alert.map (·.channel) else r.home := by
  cases r with
  | active v home stream d n => cases v <;> rfl
  | _ => rfl

/-- R63, R87: the rest of the part after an OFF. -/
theorem State.turnOff_rest (s : State) (p : Port) : SameOutsidePorts s (s.turnOff s p).migrate ∧
    KeysMigrated s (s.turnOff s p).migrate ∧ (s.turnOff s p).migrate.pc = { s.pc with ports := s.pc.ports.set p .off } := by
  refine ⟨?_, (s.turnOff s p).migrate_keys.congr (s.turnOff_ports s p).ks, ?_⟩
  · simp [SameOutsidePorts]
  · simp [State.turnOff, State.setPort]

/-- R163: the reply that follows touches the link alone. -/
theorem SameOutsidePorts.send {s t : State} (h : SameOutsidePorts s t) (u : LinkUnit) : SameOutsidePorts s (t.send u) := h

theorem KeysMigrated.send {s t : State} (h : KeysMigrated s t) (u : LinkUnit) : KeysMigrated s (t.send u) :=
  h.congr_after rfl fun _ => rfl

/-- R87: OFF makes its port's notice alone (`State.turnOff_rl`). -/
theorem exec_off_leaves {u : Unit96} {s : State} {p : Port} (spelled : u.spellsRequest 2 = true) (room : s.rl.unanswered < 8)
    (named : u.header[1].toNat = p.val) : ∃ t, exec (.off u) s = .next t ∧ SameOutsidePorts s t ∧ KeysMigrated s t ∧
      t.pc = { s.pc with ports := s.pc.ports.set p .off } ∧
      t.rl = s.answeredRl (if s.port p = .off then [] else
        [.notice p { state := .off, reason := none, home := none, shown := none, delivery := none }]) (replyTo u .ok 0) := by
  obtain ⟨outside, keys, pc⟩ := s.countRequest.turnOff_rest p
  have link : (s.countRequest.turnOff s.countRequest p).migrate.rl = _ := (State.migrate_rl _).trans (State.turnOff_rl _ p)
  refine ⟨_, exec_off spelled room named, ?_⟩
  generalize (s.countRequest.turnOff s.countRequest p).migrate = t at outside keys pc link ⊢
  refine ⟨outside.send _, (keys.congr rfl).send _, pc, ?_⟩
  rw [State.send_rl, link]
  rfl

/-- R168: the notice of a port's present record, field by field. -/
theorem exec_queryPort {u : Unit96} {s : State} {p : Port} (spelled : u.spellsRequest 10 = true)
    (room : s.rl.unanswered < 8) (named : u.header[1].toNat = p.val) :
    exec (.queryPort u) s = .next { s with rl := s.answeredRl [.notice p (s.notice p)] (replyTo u .ok 0) } := by
  have run : exec (.queryPort u) s = .next (s.countRequest.requestQueryPort u) := received _ spelled room
  rw [run, State.requestQueryPort, State.checked_pass _ (portOk_of named), portField_of named, State.answer_eq]
  rfl

/-- Settles O49: OFF by `exec_off_leaves`; a query is its own answer. -/
theorem offAndTheQueries : Obligations.OffAndTheQueries := by
  intro u s room
  refine ⟨fun p spelled named => exec_off_leaves spelled room named, ?_, fun spelled => ?_⟩
  · intro p spelled named fields
    have shown : s.notice p = fields := by
      rw [State.notice, PortRecord.noticeFields, PortRecord.shown_eq]
    rw [← shown, exec_queryPort spelled room named]
  · have run : exec (.queryRoom u) s = .next (s.countRequest.requestQueryRoom u) := received _ spelled room
    have kind : (requestKind u).toNat = 11 := by
      simp only [Unit96.spellsRequest, Bool.and_eq_true, beq_iff_eq] at spelled
      exact spelled.2
    have port : replyPort u = 0 := by
      rw [replyPort, kind]
      rfl
    rw [run, State.requestQueryRoom, port, requestKind_eq, State.answeredRl, List.append_nil]
    rfl

/-! ## The listing (R46 to R50) -/

/-- R46: the channels examined are those from the first on, as many as the count, that are channels. -/
theorem mem_examined {first : Channel} {count : Nat} {c : Channel} :
    c ∈ examined first count ↔ first.val ≤ c.val ∧ c.val < first.val + count := by
  simp only [examined, List.mem_map, List.mem_filter, List.mem_range, decide_eq_true_eq]
  constructor
  · rintro ⟨n, ⟨⟨i, below, rfl⟩, range⟩, rfl⟩
    have value : (channelOf (first.val + i)).val = first.val + i := Nat.mod_eq_of_lt (by omega)
    rw [value]
    omega
  · rintro ⟨least, below⟩
    exact ⟨c.val, ⟨⟨c.val - first.val, by omega, by omega⟩, by omega⟩, Fin.ext (Nat.mod_eq_of_lt c.isLt)⟩

/-- R46: they are examined in ascending order. -/
theorem examined_ascends (first : Channel) (count : Nat) : (examined first count).Pairwise (· < ·) := by
  unfold examined
  refine List.pairwise_map.mpr ?_
  have ascends : (List.range count |>.map (first.val + ·)).Pairwise (· < ·) :=
    List.pairwise_map.mpr (List.pairwise_lt_range.imp fun below => by omega)
  refine (List.Pairwise.filter _ ascends).imp_of_mem fun {a b} ha hb below => ?_
  have rangeA : a ≤ 255 := by simpa using (List.mem_filter.mp ha).2
  have rangeB : b ≤ 255 := by simpa using (List.mem_filter.mp hb).2
  show a % 256 < b % 256
  omega

theorem examined_length (first : Channel) (count : Nat) : (examined first count).length ≤ count := by
  unfold examined
  rw [List.length_map]
  refine (List.length_filter_le _ _).trans ?_
  simp

/-- R47: visibility, in the words of the statements. -/
theorem State.visible_iff (s : State) (p : Port) (c : Channel) (e : Service) : s.visible p c e = true ↔
    e.rating ≤ s.effectiveCeiling p ∧ (s.su.occupancy = .occupied ∨ e.tier = .house ∨
      if s.su.vacantFirst ≤ s.su.vacantLast then s.su.vacantFirst ≤ c ∧ c ≤ s.su.vacantLast
      else s.su.vacantFirst ≤ c ∨ c ≤ s.su.vacantLast) := by
  simp only [State.visible, Bool.and_eq_true, Bool.or_eq_true, decide_eq_true_eq, State.isOccupied_iff, beq_iff_eq,
    inWindow_iff, or_assoc]

@[simp] theorem State.listEntry_channel (s : State) (p : Port) (c : Channel) (e : Service) : (s.listEntry p c e).channel = c := by
  unfold State.listEntry State.filmEntry
  split
  · split <;> rfl
  · rfl

/-- R46: a listing entry stands for a channel examined that is PRESENT and visible. -/
theorem State.mem_listing {s : State} {p : Port} {first : Channel} {count : Nat} {x : ListEntry} :
    x ∈ s.listing p first count ↔ ∃ c e, c ∈ examined first count ∧ s.entry c = some e ∧ s.visible p c e = true ∧
      x = s.listEntry p c e := by
  simp only [State.listing, List.mem_filterMap, Option.bind_eq_some_iff]
  constructor
  · rintro ⟨c, member, e, entry, shown⟩
    split_ifs at shown with visible
    exact ⟨c, e, member, entry, visible, (Option.some.inj shown).symm⟩
  · rintro ⟨c, e, member, entry, visible, rfl⟩
    exact ⟨c, member, e, entry, if_pos visible⟩

theorem exec_list {u : Unit96} {s : State} {p : Port} (spelled : u.spellsRequest 9 = true) (room : s.rl.unanswered < 8)
    (named : u.header[1].toNat = p.val) (channel : u.word16 1 ≤ 255) (count : listCountOk u = true) :
    exec (.list u) s = .next { s with
      rl := s.answeredRl ((s.listing p (channelField u) (listCount u)).map .listEntry)
        (replyTo u .ok (s.listing p (channelField u) (listCount u)).length) } := by
  have run : exec (.list u) s = .next (s.countRequest.requestList u) := received _ spelled room
  have ok : (portOk u && channelOk u && listCountOk u) = true := by rw [portAndChannelOk named channel, count]; rfl
  rw [run, State.requestList, State.checked_pass _ ok, portField_of named]
  dsimp only
  rw [sendEntries_eq, State.answer_eq]
  rfl

/-- Settles O50: the listing is composed of the channels examined (`State.mem_listing`), each entry by its tier. -/
theorem listComposesItsEntries : Obligations.ListComposesItsEntries := by
  intro u s p spelled room named channel some' few visible
  have count_eq : listCount u = u.body[3].toNat := congrArg BitVec.toNat (u.byte_eq_getElem (by decide))
  have first_eq : (channelField u).val = u.word16 1 := Nat.mod_eq_of_lt (by omega)
  have ok : listCountOk u = true := by
    rw [listCountOk, count_eq, Bool.and_eq_true, decide_eq_true_eq, decide_eq_true_eq]
    exact ⟨some', few⟩
  refine ⟨_, exec_list spelled room named channel ok, ?_, ?_, fun c => ?_, fun x member => ?_⟩
  · refine List.pairwise_filterMap.mpr ((examined_ascends _ _).imp fun {a b} below x hx y hy => ?_)
    obtain ⟨e, _, shown⟩ := Option.bind_eq_some_iff.mp hx
    obtain ⟨e', _, shown'⟩ := Option.bind_eq_some_iff.mp hy
    split_ifs at shown shown'
    rw [← Option.some.inj shown, ← Option.some.inj shown', State.listEntry_channel, State.listEntry_channel]
    exact below
  · refine (List.length_filterMap_le _ _).trans ((examined_length _ _).trans ?_)
    omega
  · constructor
    · rintro ⟨x, member, rfl⟩
      obtain ⟨c, e, within, entry, shown, rfl⟩ := State.mem_listing.mp member
      rw [mem_examined, first_eq, count_eq] at within
      obtain ⟨least, below⟩ := within
      rw [State.listEntry_channel]
      exact ⟨least, below, e, entry, (s.visible_iff p c e).mp shown⟩
    · rintro ⟨least, below, e, entry, shown⟩
      refine ⟨s.listEntry p c e, State.mem_listing.mpr ⟨c, e, ?_, entry, (s.visible_iff p c e).mpr shown, rfl⟩,
        s.listEntry_channel p c e⟩
      rw [mem_examined, first_eq, count_eq]
      exact ⟨least, below⟩
  · obtain ⟨c, e, _, entry, _, rfl⟩ := State.mem_listing.mp member
    refine ⟨e, by rw [State.listEntry_channel]; exact entry, ?_⟩
    cases tier : e.tier with
    | house => simp [State.listEntry, State.plainEntry, State.entitled, tier]
    | free => simp [State.listEntry, State.plainEntry, State.entitled, tier]
    | package n => simp [State.listEntry, State.plainEntry, State.entitled, tier]
    | film title k =>
      cases held : s.purchase title <;> cases price : s.price k <;>
        simp [State.listEntry, State.filmEntry, State.plainEntry, State.entitled, tier, held, price, previewLeft]

end Sys2Proof.Machine
end

section
/-! What no row but a few moves: the clock (R8), the burst state (R35), the room number and the queue. -/

namespace Sys2Proof.Machine

/-- The clock, the burst state, the room number and the queue are as they were. -/
structure Still (s t : State) : Prop where
  clock   : t.su.clock = s.su.clock := by rfl
  burst   : t.md.burst = s.md.burst := by rfl
  room    : t.room = s.room := by rfl
  pending : t.pending = s.pending := by rfl

theorem Still.refl (s : State) : Still s s := {}

theorem Still.trans {s t u : State} (h : Still s t) (k : Still t u) : Still s u :=
  ⟨k.clock.trans h.clock, k.burst.trans h.burst, k.room.trans h.room, k.pending.trans h.pending⟩

theorem Still.foldl {α : Type} {f : State → α → State} (one : ∀ s a, Still s (f s a)) (l : List α) (s : State) :
    Still s (l.foldl f s) :=
  List.foldlRecOn (motive := fun t : State => Still s t) l f (.refl s) fun t ih a _ => ih.trans (one t a)

theorem DueFrame.still {s t : State} (h : DueFrame s t) : Still s t where
  clock := by rw [h.su]
  burst := by rw [h.md]
  room := h.room
  pending := h.pending

theorem PortsFrame.still {s t : State} (h : PortsFrame s t) : Still s t := h.toDue.still

theorem State.migrate_still (s : State) : Still s s.migrate := s.migrate_due.still

/-! ## The events -/

theorem State.treatCopy_still (s : State) (p : Port) (u : Unit96) : Still s (s.treatCopy p u) := by
  have mark : Still s (s.laneMark p u) := by
    unfold State.laneMark
    split <;> exact {}
  unfold State.treatCopy
  dsimp only
  split
  · exact mark.trans (State.copyCleared_ports _ p u _).still
  · exact mark.trans (State.copyMissed_ports _ p).still

theorem State.deliver_still (s : State) (u : Unit96) : Still s (s.deliver u) := by
  unfold State.deliver
  split
  · exact .refl s
  · exact (s.afterArranging_ports _).still.trans (Still.foldl (fun t p => t.treatCopy_still p u) _ _)

theorem State.loadKey_still (s : State) (group : Nat) (phase : KeyPhase) (k : PhaseKey) (u : Unit96) :
    Still s (s.loadKey group phase k u) := by
  unfold State.loadKey
  split <;> exact {}

/-- An event that writes fields these four do not read, re-evaluates ports and migrates. -/
theorem Still.reevaluated {s t before : State} (writes : Still s t) (test : Port → Bool) :
    Still s (t.reevaluateWhere before test).migrate :=
  (writes.trans (t.reevaluateWhere_ports before test).still).trans (State.migrate_still _)

theorem Still.reevaluatedAll {s t before : State} (writes : Still s t) : Still s (t.reevaluateAll before).migrate :=
  writes.reevaluated _

theorem Still.reevaluatedTitle {s t before : State} (writes : Still s t) (title : Nat) :
    Still s (t.reevaluateTitle before title).migrate := writes.reevaluated _

theorem State.openStay_still (s : State) (f : StayOpenFields) : Still s (s.openStay f) := by
  unfold State.openStay
  exact Still.reevaluatedAll {}

theorem State.closeStay_still (s : State) : Still s s.closeStay := by
  obtain ⟨clock, burst, room, pending⟩ := s.closeAll_frame.still
  unfold State.closeStay
  generalize s.closeAll = t at clock burst room pending
  exact Still.reevaluatedAll ⟨clock, burst, room, pending⟩

theorem State.applySettings_still (s : State) (f : SettingsFields) : Still s (s.applySettings f) := by
  unfold State.applySettings
  refine Still.reevaluatedAll ⟨rfl, ?_, rfl, rfl⟩
  dsimp only
  split <;> rfl

theorem State.setCeiling_still (s : State) (value : Nat) : Still s (s.setCeiling value) := by
  unfold State.setCeiling
  dsimp only
  split
  · exact {}
  · exact Still.reevaluatedAll {}

theorem State.endUnlocks_still (s : State) : Still s s.endUnlocks := by
  unfold State.endUnlocks
  exact Still.reevaluated {} _

theorem State.orderAlert_still (s : State) (a : Alert) : Still s (s.orderAlert a) := by
  have set : Still s (s.setAlert (some a)) := {}
  unfold State.orderAlert
  split
  · exact (set.trans (s.startAlert_ports a).still).trans (State.migrate_still _)
  · split
    · exact set
    · exact (set.trans (s.moveAlert_ports a).still).trans (State.migrate_still _)

theorem State.handReturn_still (s : State) (r : ReturnUnit) : Still s (s.handReturn r) := by
  unfold State.handReturn
  split_ifs <;> exact {}

theorem State.endReturn_still (s : State) : Still s s.endReturn := by
  unfold State.endReturn
  split <;> exact {}

theorem State.releaseTo_still (s : State) (n : Nat) : Still s (s.releaseTo n) := by
  obtain released | ⟨_, released⟩ := s.releaseTo_cases n <;> rw [released] <;> exact {}

theorem Still.untied {s : State} {event : State → State} (h : Still s (event s)) : Still s (s.untied event) :=
  ⟨h.clock, h.burst, h.room, h.pending⟩

theorem Still.settled {s : State} {event : State → State} (h : Still s (event s)) :
    Still s (s.atTail event) :=
  ⟨h.clock, h.burst, h.room, h.pending⟩

/-! ## Requests -/

theorem State.answer_still (s : State) (u : Unit96) (code : ReplyCode) (detail : Nat) : Still s (s.answer u code detail) := {}

theorem Still.answered {s t : State} (h : Still s t) (u : Unit96) (code : ReplyCode) (detail : Nat) :
    Still s (t.answer u code detail) := h.trans (t.answer_still u code detail)

theorem State.checked_still {s : State} {u : Unit96} {ok : Bool} {owner : State → State} (h : Still s (owner s)) :
    Still s (s.checked u ok owner) := by
  unfold State.checked
  split
  · exact h
  · exact s.answer_still u _ _

theorem State.tune_still (s : State) (p : Port) (c : Channel) : Still s ((s.tunePort p c).announce s).migrate :=
  ((s.tunePort_ports p c).trans (State.announce_ports _ s)).still.trans (State.migrate_still _)

theorem State.recordBuy_still (s : State) (e : Purchase) (preview : Nat) : Still s (s.recordBuy e preview) := by
  have took (t : State) : Still t (t.takeUpPreview e.title preview) := (t.takeUpPreview_ports _ _).still
  have bills : Still s ((({ s with pu := { s.pu with purchases := s.pu.purchases ++ [e] } } : State).raiseSpend
    e.charge).bill e .purchase e.charge s.su.clock) := {}
  have bought := bills.trans (took _)
  unfold State.recordBuy
  dsimp only
  split
  · exact ⟨bought.clock, bought.burst, bought.room, bought.pending⟩
  · exact bought

theorem State.playTitle_still (s before : State) (p : Port) (c : Channel) (title : Nat) :
    Still s (s.playTitle before p c title) := by
  unfold State.playTitle
  have tuned := (s.tunePort_ports p c).still
  generalize s.tunePort p c = t at tuned
  exact ((tuned.trans (t.reevaluateEach_ports _).still).trans (State.announce_ports _ before).still).trans
    (State.migrate_still _)

theorem State.acceptBuy_still (s : State) (p : Port) (c : Channel) : Still s (s.acceptBuy p c) := by
  unfold State.acceptBuy
  split
  · split
    · exact (s.recordBuy_still _ _).trans (State.playTitle_still _ s p c _)
    · exact .refl s
  · exact .refl s

theorem State.settleHeld_still (s : State) : Still s s.settleHeld := s.settleHeld_due.still

theorem Still.answeredAndSettled {s t : State} (h : Still s t) (u : Unit96) (code : ReplyCode) (detail : Nat) :
    Still s ((t.answer u code detail).atTail State.settleHeld) :=
  (h.answered u code detail).trans (State.settleHeld_still _).settled

theorem State.voidPurchase_still (s : State) (e : Purchase) : Still s (s.voidPurchase e) := by
  unfold State.voidPurchase
  exact Still.reevaluatedTitle {} e.title

/-- R113: a wrong PIN below the budget. -/
theorem State.wrongPin_below {s : State}
    (below : (s.lu.countFailure s.su.clock).failures ≠ (s.lu.countFailure s.su.clock).budget) :
    s.wrongPin = ({ s with lu := s.lu.countFailure s.su.clock }, .wrongPin,
      (s.lu.countFailure s.su.clock).budget - (s.lu.countFailure s.su.clock).failures) := if_neg below

/-- R113: a wrong PIN at the budget. -/
theorem State.wrongPin_at {s : State}
    (budget : (s.lu.countFailure s.su.clock).failures = (s.lu.countFailure s.su.clock).budget) :
    s.wrongPin = ((State.reevaluateWhere { s with
      lu := ((s.lu.countFailure s.su.clock).startLockout s.su.clock).endUnlocks } s s.hasUnlock).migrate,
      .lockoutStarted, 600) := if_pos budget

theorem State.wrongPin_still (s : State) : Still s s.wrongPin.1 := by
  by_cases budget : (s.lu.countFailure s.su.clock).failures = (s.lu.countFailure s.su.clock).budget
  · have starts : Still s { s with lu := ((s.lu.countFailure s.su.clock).startLockout s.su.clock).endUnlocks } := {}
    have moved := starts.reevaluated (before := s) s.hasUnlock
    rw [State.wrongPin_at budget]
    exact moved
  · rw [State.wrongPin_below budget]
    exact {}

theorem State.unlockPort_still (s : State) (p : Port) (seconds : Nat) : Still s (s.unlockPort p seconds) := by
  unfold State.unlockPort
  have writes : Still s (({ s with lu := { s.lu with failures := 0 } } : State).setUnlock p
    (some (holdDue (s.su.clock + seconds)))) := {}
  exact (writes.trans (State.reevaluate_ports _ s p).still).trans (State.migrate_still _)

theorem State.answerWrongPin_still (s : State) (u : Unit96) :
    Still s ((s.answerWrongPin u).atTail State.settleHeld) := s.wrongPin_still.answeredAndSettled u _ _

theorem State.linkReset_still (s : State) :
    Still s (({ s with lu := s.lu.endUnlocks } : State).turnAllOff s).migrate :=
  have ended : Still s { s with lu := s.lu.endUnlocks } := {}
  (ended.trans (State.turnAllOff_ports _ s).still).trans (State.migrate_still _)

/-- Every request leaves the four alone. -/
theorem State.request_still (s : State) (u : Unit96) : Still s (s.request u) := by
  unfold State.request
  split
  · exact State.checked_still ((s.tune_still _ _).answered u _ _)
  · exact State.checked_still (((s.turnOff_ports s _).still.trans (State.migrate_still _)).answered u _ _)
  · refine State.checked_still ?_
    dsimp only
    split
    · exact (s.acceptBuy_still _ _).answeredAndSettled u _ _
    · exact (s.tune_still _ _).answered u _ _
    · exact s.answer_still u _ _
  · refine State.checked_still ?_
    split
    · exact s.answer_still u _ _
    · split
      · exact s.answer_still u _ _
      · exact (s.voidPurchase_still _).answered u _ _
  · refine State.checked_still ?_
    dsimp only
    split
    · exact s.answer_still u _ _
    split
    · exact s.answer_still u _ _
    split
    · exact s.answer_still u _ _
    split
    · exact (s.unlockPort_still _ _).answeredAndSettled u _ _
    · exact s.answerWrongPin_still u
  · refine State.checked_still ?_
    split
    · exact s.answer_still u _ _
    split
    · exact s.answer_still u _ _
    split
    · exact s.answer_still u _ _
    split
    · exact s.answer_still u _ _
    split
    · exact Still.answered {} u _ _
    · exact s.answerWrongPin_still u
  · refine State.checked_still ?_
    dsimp only
    split
    · exact s.answer_still u _ _
    split
    · exact (s.setCeiling_still _).answered u _ _
    split
    · exact s.answer_still u _ _
    split
    · exact s.answer_still u _ _
    split
    · exact ((show Still s { s with lu := { s.lu with failures := 0 } } from {}).trans
        (State.setCeiling_still _ _)).answered u _ _
    · exact s.answerWrongPin_still u
  · exact State.checked_still ((s.endUnlock_due _).still.answered u _ _)
  · refine State.checked_still ?_
    dsimp only
    rw [sendEntries_eq]
    exact Still.answered {} u _ _
  · exact State.checked_still (Still.answered {} u _ _)
  · exact {}
  · have off := s.linkReset_still
    unfold State.requestLinkReset
    generalize (({ s with lu := s.lu.endUnlocks } : State).turnAllOff s).migrate = t at off
    have abandoned : Still t t.abandon := {}
    exact (off.trans abandoned).answered u _ _
  · exact s.answer_still u _ _

theorem State.receive_still (s : State) (u : Unit96) : Still s (s.receive u fun t => t.request u) := by
  unfold State.receive
  split
  · exact {}
  · exact (show Still s s.countRequest from {}).trans (State.request_still _ u)

theorem State.takeHeld_still (s : State) : Still s s.takeHeld := by
  unfold State.takeHeld
  split
  · exact .refl s
  · split
    · exact .refl s
    · next x xs _ _ =>
      have taken : Still s ({ s with rl := { s.rl with held := xs } } : State).countRequest := {}
      exact taken.trans (State.request_still _ x)

theorem State.linkNext_still (s : State) : Still s s.linkNext := by
  cases waits : s.rl.transmit with
  | nil => rw [State.linkNext_empty waits]; exact {}
  | cons u us =>
    have left : Still s (s.leave u us) := {}
    rw [State.linkNext_cons waits]
    exact left.trans (State.takeHeld_still _)

end Sys2Proof.Machine
end

section
/-! Which rows move the clock (R8) and the burst state (R35): every row by cases, and the two statements. -/

namespace Sys2Proof.Machine

/-! ## Time -/

theorem State.accrue_still (s : State) : Still s s.accrue := by
  have outage : Still s s.accrueOutage := {}
  have counted (t : State) : Still t t.countPreview := {}
  have blanked (t : State) (ps : List Port) : Still t (ps.foldl State.overPreview t) :=
    (PortsFrame.foldl (fun t p => t.overPreview_ports p) ps t).still
  have previewed (t : State) : Still t t.accruePreview :=
    (((counted t).trans (blanked _ _)).trans (State.announce_ports _ t).still).trans (State.migrate_still _)
  exact outage.trans (previewed _)

/-- R8: after a local second's clock has ticked, its events and accruals leave the four alone. -/
theorem State.second_still (s : State) : Still { s with su := s.su.tickClock.countSilence } s.second := by
  generalize ticked : ({ s with su := s.su.tickClock.countSilence } : State) = t
  obtain ⟨-, same⟩ | ⟨k, c, taken⟩ := s.second_cases t ticked.symm
  · rw [same]
    exact t.accrue_still
  · have chosen : Still t { t with choices := c } := {}
    rw [taken]
    exact ((chosen.trans (State.takeDueUpTo_due k _).still).trans (State.accrue_still _)).trans (State.settleDue_due _).still

theorem State.breakSilence_still (s : State) : Still s s.breakSilence := {}

/-- R9: a mark ahead of the clock sets it; any other leaves it. -/
theorem State.mark_still (s : State) (n : Nat) :
    Still { s with su := { s.su with clock := if s.su.clock < n then n else s.su.clock } } (s.mark n) := by
  unfold State.mark
  split
  · exact (State.settleDue_due _).still.trans (State.breakSilence_still _)
  · have ignored : Still { s with su := { s.su with clock := s.su.clock } }
      { s with su := { s.su with marksIgnored := raiseCounter s.su.marksIgnored } } := {}
    exact ignored.trans (State.breakSilence_still _)

/-! ## Tables -/

/-- What a burst's own rows leave of the four. -/
structure Steady (s t : State) : Prop where
  clock   : t.su.clock = s.su.clock := by rfl
  room    : t.room = s.room := by rfl
  pending : t.pending = s.pending := by rfl

theorem Steady.trans {s t u : State} (h : Steady s t) (k : Steady t u) : Steady s u :=
  ⟨k.clock.trans h.clock, k.room.trans h.room, k.pending.trans h.pending⟩

theorem Still.steady {s t : State} (h : Still s t) : Steady s t := ⟨h.clock, h.room, h.pending⟩

theorem State.writeService_still (s : State) (c : Channel) (e : Option Service) : Still s (s.writeService c e) := by
  have stored : Still s (s.storeService c e) := {}
  have decided := stored.trans (s.decideChannel_frame c e).still
  rw [State.writeService_eq]
  generalize s.decideChannel c e = t at decided
  refine Still.trans ?_ (State.migrate_still _)
  split
  · exact decided.trans t.restreamAlerts_ports.still
  · exact decided

theorem State.writeRemap_still (s : State) (i : Fin 8) (e : Option RemapEntry) : Still s (s.writeRemap i e) := by
  have stored : Still s { s with sf := { s.sf with remap := s.sf.remap.set i e } } := {}
  exact stored.trans (State.restreamAll_ports _).still

theorem State.writeEntry_steady (s : State) (u : Unit96) (t : Table) (i index : Nat) : Steady s (s.writeEntry u t i index) := by
  unfold State.writeEntry
  split
  · exact (s.writeService_still _ _).steady
  · exact {}
  · exact (s.writeRemap_still _ _).steady

theorem State.takeEntry_steady (s : State) (u : Unit96) (t : Table) (i : Nat) : Steady s (State.takeEntry u t s i) := by
  unfold State.takeEntry
  split
  · exact {}
  · next b _ =>
    have written := s.writeEntry_steady u t i b.pointer
    exact ⟨written.clock, written.room, written.pending⟩

theorem State.takeData_steady (s : State) (u : Unit96) : Steady s (s.takeData u) := by
  unfold State.takeData
  split
  · exact {}
  · split
    · exact {}
    · split
      · exact {}
      · exact List.foldlRecOn (motive := fun t : State => Steady s t) _ _ {} fun t ih i _ =>
          ih.trans (t.takeEntry_steady u _ i)

theorem State.openBurst_steady (s : State) (u : Unit96) (t : Table) : Steady s (s.openBurst u t) := by
  unfold State.openBurst
  dsimp only
  split <;> exact {}

/-! ## The rows -/

/-- MD's part of a management row: a unit that is not taken leaves the four alone; a taken one, after the burst's close, is
refused or reaches its owner. -/
theorem managed_outcome {spelled closes roomOnly fields : Bool} {s t : State} {u : Unit96} {owner : State → State}
    (run : asRow spelled (s.manage u ⟨closes, roomOnly, fields⟩ owner) = .next t) :
    (¬ s.Takes u ∧ Still s t) ∨ (s.Takes u ∧ ∃ b, b = (if closes then s.closeBurst else s) ∧
      ((∃ r, t = b.refuse u r) ∨ t = owner b)) := by
  obtain ⟨_, rfl⟩ := asRow_eq_next.mp run
  by_cases check : u.checkOk = true
  · by_cases accepted : s.accepts u = true
    · refine .inr ⟨⟨check, accepted⟩, _, rfl, ?_⟩
      have taken : s.manage u ⟨closes, roomOnly, fields⟩ owner =
          let b := if closes then s.closeBurst else s
          if !fields then b.refuse u .badField
          else if roomOnly && !b.addressedToRoom u then b.refuse u .roomOnly else owner b := by
        simp [State.manage, check, accepted]
      rw [taken]
      dsimp only
      generalize (if closes then s.closeBurst else s) = b
      split_ifs
      · exact .inl ⟨_, rfl⟩
      · exact .inl ⟨_, rfl⟩
      · exact .inr rfl
    · rw [State.manage_ignored _ owner check (by simpa using accepted)]
      exact .inl ⟨fun taken => accepted taken.2, .refl s⟩
  · rw [State.manage_failed _ owner (by simpa using check)]
    exact .inl ⟨fun taken => check taken.1, {}⟩

/-- What a row does to the four. -/
structure Moves (c : Instr) (s t : State) : Prop where
  pending : t.pending = s.pending
  room    : (∀ strap, c ≠ .powerOnReset strap) → t.room = s.room
  clock   : (∀ strap, c ≠ .powerOnReset strap) → c ≠ .localSecond → (∀ u, c ≠ .clockMark u) → t.su.clock = s.su.clock
  closes  : ∀ u, c ∈ closingRows u → s.Takes u → t.md.burst = none
  keeps   : ∀ u, c ∈ closingRows u ∨ c = .tableOpen u ∨ c = .tableData u → ¬ s.Takes u → t.md.burst = s.md.burst
  others  : (∀ u, c ∉ closingRows u ∧ c ≠ .tableOpen u ∧ c ≠ .tableData u) → (∀ strap, c ≠ .powerOnReset strap) →
    t.md.burst = s.md.burst

theorem Moves.of_still {c : Instr} {s t : State} (h : Still s t) (open' : ∀ u, c ∉ closingRows u) : Moves c s t where
  pending := h.pending
  room _ := h.room
  clock _ _ _ := h.clock
  closes u closing := absurd closing (open' u)
  keeps _ _ _ := h.burst
  others _ _ := h.burst

/-- A row of a kind that closes bursts. -/
theorem Moves.of_closing {c : Instr} {spelled roomOnly fields : Bool} {s t : State} {u : Unit96} {owner : State → State}
    (run : asRow spelled (s.manage u ⟨true, roomOnly, fields⟩ owner) = .next t)
    (own : Still s.closeBurst (owner s.closeBurst)) (closing : c ∈ closingRows u)
    (unique : ∀ v, c ∈ closingRows v ∨ c = .tableOpen v ∨ c = .tableData v → v = u) : Moves c s t := by
  have steady : Steady s t ∧ (s.Takes u → t.md.burst = none) ∧ (¬ s.Takes u → t.md.burst = s.md.burst) := by
    have close : Steady s s.closeBurst := {}
    obtain ⟨other, still⟩ | ⟨taken, b, rfl, ⟨r, rfl⟩ | rfl⟩ := managed_outcome run
    · exact ⟨still.steady, fun taken => absurd taken other, fun _ => still.burst⟩
    · exact ⟨{}, fun _ => rfl, fun other => absurd taken other⟩
    · exact ⟨close.trans own.steady, fun _ => own.burst, fun other => absurd taken other⟩
  obtain ⟨steady, closes, keeps⟩ := steady
  exact {
    pending := steady.pending
    room := fun _ => steady.room
    clock := fun _ _ _ => steady.clock
    closes := fun v row taken => by obtain rfl := unique v (.inl row); exact closes taken
    keeps := fun v row other => by obtain rfl := unique v row; exact keeps other
    others := fun none _ => absurd closing (none u).1 }

/-- A management row that neither closes bursts nor writes the burst state. -/
theorem Moves.of_managed {c : Instr} {spelled roomOnly fields : Bool} {s t : State} {u : Unit96} {owner : State → State}
    (run : asRow spelled (s.manage u ⟨false, roomOnly, fields⟩ owner) = .next t) (own : Still s (owner s))
    (open' : ∀ v, c ∉ closingRows v) : Moves c s t := by
  refine .of_still ?_ open'
  obtain ⟨_, still⟩ | ⟨_, b, rfl, ⟨r, rfl⟩ | rfl⟩ := managed_outcome run
  · exact still
  · exact {}
  · exact own

/-- TABLE_OPEN and TABLE_DATA. -/
theorem Moves.of_burst {c : Instr} {spelled closes fields : Bool} {s t : State} {u : Unit96} {owner : State → State}
    (run : asRow spelled (s.manage u ⟨closes, false, fields⟩ owner) = .next t) (own : ∀ b : State, Steady b (owner b))
    (row : c = .tableOpen u ∨ c = .tableData u)
    (unique : ∀ v, c ∈ closingRows v ∨ c = .tableOpen v ∨ c = .tableData v → v = u) (open' : ∀ v, c ∉ closingRows v) :
    Moves c s t := by
  have close : Steady s (if closes then s.closeBurst else s) := by split <;> exact {}
  have steady : Steady s t ∧ (¬ s.Takes u → t.md.burst = s.md.burst) := by
    obtain ⟨_, still⟩ | ⟨taken, b, rfl, ⟨r, rfl⟩ | rfl⟩ := managed_outcome run
    · exact ⟨still.steady, fun _ => still.burst⟩
    · exact ⟨⟨close.clock, close.room, close.pending⟩, fun other => absurd taken other⟩
    · exact ⟨close.trans (own _), fun other => absurd taken other⟩
  obtain ⟨steady, keeps⟩ := steady
  exact {
    pending := steady.pending
    room := fun _ => steady.room
    clock := fun _ _ _ => steady.clock
    closes := fun v closing => absurd closing (open' v)
    keeps := fun v own other => by obtain rfl := unique v own; exact keeps other
    others := fun none _ => row.elim (fun e => absurd e (none u).2.1) fun e => absurd e (none u).2.2 }

theorem Moves.of_request {c : Instr} {s t : State} {u : Unit96} (row : c ∈ requestRows u) (spelled : c.wellFormed = true)
    (run : exec c s = .next t) (open' : ∀ v, c ∉ closingRows v) : Moves c s t := by
  rw [exec_requestRow row spelled] at run
  cases run
  exact .of_still (s.receive_still u) open'

theorem Moves.of_row {c : Instr} {spelled : Bool} {s x t : State} (run : asRow spelled x = .next t) (still : Still s x)
    (open' : ∀ v, c ∉ closingRows v) : Moves c s t := by
  obtain ⟨_, rfl⟩ := asRow_eq_next.mp run
  exact .of_still still open'

end Sys2Proof.Machine
end

section
/-! What each row moves of the clock, the burst state, the room number and the queue (R8, R35). -/

namespace Sys2Proof.Machine

theorem wellFormed_of_run {c : Instr} {s t : State} (run : exec c s = .next t) : c.wellFormed = true := by
  obtain ⟨x, same⟩ := exec_asRow c s
  rw [same] at run
  exact (asRow_eq_next.mp run).1

/-- The two rows that move the clock. -/
theorem Moves.of_time {c : Instr} {s t : State} (clock : c = .localSecond ∨ ∃ u, c = .clockMark u)
    (burst : t.md.burst = s.md.burst) (room : t.room = s.room) (pending : t.pending = s.pending)
    (open' : ∀ u, c ∉ closingRows u) : Moves c s t where
  pending := pending
  room _ := room
  clock _ second mark := by
    obtain rfl | ⟨u, rfl⟩ := clock
    · exact absurd rfl second
    · exact absurd rfl (mark u)
  closes u closing := absurd closing (open' u)
  keeps _ _ _ := burst
  others _ _ := burst

/-- ROOM_RESET closes the burst itself too (R16). -/
theorem State.resetRoom_still {s : State} (closed : s.md.burst = none) : Still s s.resetRoom := by
  have cleared : Still s (s.setAlert none) := {}
  have ports := cleared.trans (State.turnAllOff_ports _ s).still
  unfold State.resetRoom
  generalize (s.setAlert none).turnAllOff s = t at ports
  exact ⟨ports.clock, closed.symm, ports.room, ports.pending⟩

theorem State.second_untied (s : State) : (s.untied State.second).md.burst = s.md.burst ∧
    (s.untied State.second).room = s.room ∧ (s.untied State.second).pending = s.pending := by
  obtain ⟨-, burst, room, pending⟩ := s.second_still
  unfold State.untied
  generalize s.second = t at burst room pending
  exact ⟨burst, room, pending⟩

/-- R8, R35: what each row moves. -/
theorem exec_moves {c : Instr} {s t : State} (run : exec c s = .next t) : Moves c s t := by
  cases c with
  | powerOnReset strap =>
    obtain rfl := Host.Outcome.next.inj run
    exact ⟨rfl, fun other => absurd rfl (other strap), fun other => absurd rfl (other strap), by simp [closingRows],
      by simp [closingRows], fun _ other => absurd rfl (other strap)⟩
  | mediaUnit u => exact .of_row run (s.deliver_still u).untied (by simp [closingRows])
  | filler u => exact .of_row run (.refl s) (by simp [closingRows])
  | feedReturnUnit u => exact .of_row run (.refl s) (by simp [closingRows])
  | formatFault u => exact .of_row run {} (by simp [closingRows])
  | badKind u => exact .of_closing run {} (by simp [closingRows]) (by simp [closingRows])
  | clockMark u =>
    have marked (b : State) : (b.untied fun x => x.mark (markTime u)).md.burst = b.md.burst ∧ _ ∧ _ :=
      ⟨(b.mark_still _).burst, (b.mark_still (markTime u)).room, (b.mark_still (markTime u)).pending⟩
    obtain ⟨_, still⟩ | ⟨_, b, same, taken⟩ := managed_outcome run
    · exact .of_still still (by simp [closingRows])
    obtain rfl : b = s := same
    obtain ⟨r, rfl⟩ | rfl := taken
    · exact .of_still {} (by simp [closingRows])
    · exact .of_time (.inr ⟨u, rfl⟩) (marked b).1 (marked b).2.1 (marked b).2.2 (by simp [closingRows])
  | keyLoad u => exact .of_managed run (s.loadKey_still _ _ _ u) (by simp [closingRows])
  | keyPurge u =>
    have purged : Still s { s with ks := s.ks.purge (keyGroupField u) } := {}
    exact .of_managed run (purged.trans (State.migrate_still _)) (by simp [closingRows])
  | keyPurgeAllGroups u => exact .of_managed run {} (by simp [closingRows])
  | tableOpen u => exact .of_burst run (fun b => b.openBurst_steady u _) (.inl rfl) (by simp [closingRows]) (by simp [closingRows])
  | tableData u =>
    have own (b : State) : Steady b (b.untied fun x => x.takeData u) :=
      ⟨(b.takeData_steady u).clock, (b.takeData_steady u).room, (b.takeData_steady u).pending⟩
    exact .of_burst run own (.inr rfl) (by simp [closingRows]) (by simp [closingRows])
  | stayOpen u =>
    refine .of_closing run ?_ (by simp [closingRows]) (by simp [closingRows])
    split
    · exact {}
    · exact (State.openStay_still _ _).untied
  | stayClose u =>
    refine .of_closing run ?_ (by simp [closingRows]) (by simp [closingRows])
    split
    · exact (State.closeStay_still _).untied
    · exact .refl _
  | roomSettings u => exact .of_closing run (State.applySettings_still _ _).untied (by simp [closingRows]) (by simp [closingRows])
  | setCeiling u => exact .of_closing run (State.setCeiling_still _ _).untied (by simp [closingRows]) (by simp [closingRows])
  | endUnlocks u => exact .of_closing run (State.endUnlocks_still _).untied (by simp [closingRows]) (by simp [closingRows])
  | clearPin u => exact .of_closing run {} (by simp [closingRows]) (by simp [closingRows])
  | endLockout u => exact .of_closing run {} (by simp [closingRows]) (by simp [closingRows])
  | freeze u => exact .of_closing run {} (by simp [closingRows]) (by simp [closingRows])
  | unfreeze u => exact .of_closing run {} (by simp [closingRows]) (by simp [closingRows])
  | houseAlert u =>
    exact .of_closing run ((State.orderAlert_still _ _).trans (State.settleHeld_still _)).untied (by simp [closingRows])
      (by simp [closingRows])
  | houseAlertStop u =>
    refine .of_closing run ?_ (by simp [closingRows]) (by simp [closingRows])
    split
    · exact (State.endAlert_due _).still.untied
    · exact .refl _
  | pollBilling u => exact .of_managed run (s.handReturn_still _) (by simp [closingRows])
  | pollCapture u => exact .of_managed run (s.handReturn_still _) (by simp [closingRows])
  | returnTransmitEnd =>
    obtain rfl := Host.Outcome.next.inj run
    exact .of_still s.endReturn_still (by simp [closingRows])
  | release u => exact .of_closing run (State.releaseTo_still _ _) (by simp [closingRows]) (by simp [closingRows])
  | roomReset u =>
    exact .of_closing run (State.resetRoom_still (s := s.closeBurst) rfl).settled (by simp [closingRows]) (by simp [closingRows])
  | localSecond =>
    obtain rfl := Host.Outcome.next.inj run
    obtain ⟨burst, room, pending⟩ := s.second_untied
    exact .of_time (.inl rfl) burst room pending (by simp [closingRows])
  | silent =>
    obtain rfl := Host.Outcome.next.inj run
    exact .of_still {} (by simp [closingRows])
  | keyPhaseExpiry g ph =>
    obtain rfl := Host.Outcome.next.inj run
    refine .of_still ?_ (by simp [closingRows])
    split
    · exact (s.expireKey_due g ph).still
    · exact .refl s
  | unlockEnd p =>
    obtain rfl := Host.Outcome.next.inj run
    exact .of_still (s.endUnlock_due p).still.untied (by simp [closingRows])
  | lockoutEnd =>
    obtain rfl := Host.Outcome.next.inj run
    refine .of_still ?_ (by simp [closingRows])
    split
    · exact ((s.endLockout_due _).still.trans (State.settleHeld_still _)).untied
    · exact .refl s
  | strictQuietEnd =>
    obtain rfl := Host.Outcome.next.inj run
    exact .of_still {} (by simp [closingRows])
  | purchaseWindowEnd title =>
    obtain rfl := Host.Outcome.next.inj run
    refine .of_still ?_ (by simp [closingRows])
    split
    · next e _ => exact Still.untied (event := fun x => x.endWindow e e.windowEnd) (s.endWindow_due e _).still
    · exact .refl s
  | houseAlertEnd =>
    obtain rfl := Host.Outcome.next.inj run
    refine .of_still ?_ (by simp [closingRows])
    split
    · exact s.endAlert_due.still.untied
    · exact .refl s
  | signalTimerExpiry p =>
    obtain rfl := Host.Outcome.next.inj run
    exact .of_still (s.expireSignal_ports p).still.untied (by simp [closingRows])
  | blankCadenceExpiry p =>
    obtain rfl := Host.Outcome.next.inj run
    exact .of_still (s.expireCadence_ports p).still.untied (by simp [closingRows])
  | linkUnitSent =>
    obtain rfl := Host.Outcome.next.inj run
    exact .of_still s.linkNext_still (by simp [closingRows])
  | nonRequestUnit u => exact .of_row run (.refl s) (by simp [closingRows])
  | unknownRequestKind u | tune u | off u | buy u | cancel u | pinUnlock u | pinSet u | ceiling u | relock u | list u
  | queryPort u | queryRoom u | linkReset u =>
    exact .of_request (u := u) (by simp [requestRows]) (wellFormed_of_run run) run (by simp [closingRows])

/-- Settles O12, by `exec_moves`. -/
theorem burstClosesOnlyAtClosingKinds : Obligations.BurstClosesOnlyAtClosingKinds := fun _ _ _ run =>
  have moves := exec_moves run
  ⟨moves.closes, moves.keeps, moves.others⟩

/-- R8: a CLOCK_MARK never sets the clock back, nor past its last value. -/
theorem exec_clockMark_clock {u : Unit96} {s t : State} (run : exec (.clockMark u) s = .next t)
    (range : s.su.clock ≤ 4294967295) : s.su.clock ≤ t.su.clock ∧ t.su.clock ≤ 4294967295 := by
  have hotel : markTime u < 4294967296 := u.word32_lt 3
  obtain ⟨_, still⟩ | ⟨_, b, same, taken⟩ := managed_outcome run
  · rw [still.clock]
    omega
  obtain rfl : b = s := same
  obtain ⟨r, rfl⟩ | rfl := taken
  · exact ⟨Nat.le_refl _, range⟩
  · show b.su.clock ≤ (b.untied fun x => x.mark (markTime u)).su.clock ∧ (b.untied fun x => x.mark (markTime u)).su.clock ≤ _
    have marked : (b.untied fun x => x.mark (markTime u)).su.clock = _ := (b.mark_still (markTime u)).clock
    rw [marked]
    dsimp only
    split <;> omega

/-- R8: the clock after a local second. -/
theorem State.second_clock (s : State) : (s.untied State.second).su.clock = min (s.su.clock + 1) 4294967295 := by
  rw [State.untied_su, s.second_still.clock]
  exact s.tick_clock

/-- Settles O4: `exec_moves`, with the clock of the two rows that move it. -/
theorem clockNeverDecreases : Obligations.ClockNeverDecreases := by
  intro c s t run
  have moves := exec_moves run
  refine ⟨moves.pending, fun powered => ⟨moves.room powered, fun range => ?_, moves.clock powered⟩⟩
  by_cases second : c = .localSecond
  · subst second
    obtain rfl := Host.Outcome.next.inj run
    rw [State.second_clock]
    omega
  by_cases mark : ∃ u, c = .clockMark u
  · obtain ⟨u, rfl⟩ := mark
    exact exec_clockMark_clock run range
  · rw [moves.clock powered second fun u row => mark ⟨u, row⟩]
    omega

end Sys2Proof.Machine
end

section
/-! Return units (R19, R156, R158, R159). -/

namespace Sys2Proof.Machine

/-! ## POLL and the end of a transmission -/

/-- A row that only this room's units reach. -/
theorem managedHere {closes ok spelled : Bool} {s : State} {u : Unit96} (spells : spelled = true)
    (check : u.checkOk = true) (assigned : destination u ≠ 0) (own : destination u = s.room.toNat) (passes : ok = true)
    (owner : State → State) :
    asRow spelled (s.manage u ⟨closes, true, ok⟩ owner) = .next (owner (if closes then s.closeBurst else s)) := by
  obtain ⟨accepted, addressed⟩ := State.addressed_of_destination assigned own
  rw [asRow_spelled spells, State.manage_taken _ check accepted passes fun _ => addressed]

theorem exec_pollBilling {s : State} {u : Unit96} (kind : u.spellsMgmt 11 = true) (check : u.checkOk = true)
    (assigned : destination u ≠ 0) (own : destination u = s.room.toNat) (variant : u.body[3].toNat = 1) :
    exec (.pollBilling u) s = .next (s.handReturn s.billingUnit) :=
  managedHere (spellsPollBilling_of kind (by omega)) check assigned own ((variantOk_iff u).mpr (.inl variant))
    fun x => x.handReturn x.billingUnit

theorem exec_pollCapture {s : State} {u : Unit96} (kind : u.spellsMgmt 11 = true) (check : u.checkOk = true)
    (assigned : destination u ≠ 0) (own : destination u = s.room.toNat) (variant : u.body[3].toNat = 2) :
    exec (.pollCapture u) s = .next (s.handReturn s.captureUnit) :=
  managedHere (spellsPollCapture_of kind variant) check assigned own ((variantOk_iff u).mpr (.inr variant))
    fun x => x.handReturn x.captureUnit

theorem State.handReturn_idle {s : State} (idle : s.fi.sending = none) (r : ReturnUnit) :
    s.handReturn r = s.beginReturn r := if_pos (Option.isNone_iff_eq_none.mpr idle)

theorem State.handReturn_room {s : State} (busy : s.fi.sending ≠ none) (room : s.fi.waiting.length < 4) (r : ReturnUnit) :
    s.handReturn r = { s with fi := { s.fi with waiting := s.fi.waiting ++ [r] } } :=
  (if_neg (mt Option.isNone_iff_eq_none.mp busy)).trans (if_pos room)

theorem State.handReturn_full {s : State} (busy : s.fi.sending ≠ none) (full : 4 ≤ s.fi.waiting.length) (r : ReturnUnit) :
    s.handReturn r = { s with fi := { s.fi with
      waiting := s.fi.waiting.drop 1 ++ [r], dropped := min (s.fi.dropped + 1) 65535 } } := by
  rw [List.drop_one]
  exact (if_neg (mt Option.isNone_iff_eq_none.mp busy)).trans (if_neg (Nat.not_lt.mpr full))

/-- R159: the records whose numbers a unit carries are marked sent. -/
theorem BillingQueue.markSent_eq (bq : BillingQueue) (carried : List BillingRecord) :
    bq.markSent (carried.map (·.seq)) = { bq with
      queue := bq.queue.map fun r => if r.seq ∈ carried.map (·.seq) then { r with sent := true } else r } := by
  simp only [BillingQueue.markSent, List.contains_eq_mem, decide_eq_true_eq]

/-- Settles O44: R19's three cases (`State.handReturn_idle`, `_room`, `_full`) and the two of a transmission's end. -/
theorem pollsAndReturnUnits : Obligations.PollsAndReturnUnits := by
  intro u s begun handed
  have begins (b : State) (unit : ReturnUnit) (carried : List BillingRecord)
      (carries : unit.carried = carried.map (·.seq)) : begun b unit carried (b.beginReturn unit) := by
    refine ⟨rfl, rfl, ?_⟩
    rw [← b.bq.markSent_eq carried, ← carries]
    rfl
  have hands (c : Instr) (unit : ReturnUnit) (carried : List BillingRecord)
      (carries : unit.carried = carried.map (·.seq)) (run : exec c s = .next (s.handReturn unit)) :
      handed c unit carried := by
    refine ⟨fun idle => ⟨_, run, ?_⟩, fun busy room => ?_, fun busy full => ?_⟩
    · rw [State.handReturn_idle idle]
      exact begins s unit carried carries
    · rw [run, State.handReturn_room busy room]
    · rw [run, State.handReturn_full busy full]
  refine ⟨fun kind check assigned own => ⟨fun variant => ?_, fun variant => ?_⟩, fun idle => ?_, fun unit rest waits => ?_⟩
  · exact hands _ _ _ rfl (exec_pollBilling kind check assigned own variant)
  · exact hands _ _ _ rfl (exec_pollCapture kind check assigned own variant)
  · show Host.Outcome.next s.endReturn = _
    rw [State.endReturn, idle]
  · have ends : s.endReturn = ({ s with fi := { s.fi with waiting := rest } } : State).beginReturn unit := by
      rw [State.endReturn, waits]
    refine ⟨s.endReturn, rfl, ?_⟩
    rw [ends]
    refine begins _ unit _ ?_
    unfold ReturnUnit.carried
    cases unit.content with
    | billing | capture => rfl

end Sys2Proof.Machine
end

section
/-! Reading back the bytes of a unit the part sends (R171, R174, R176). -/

namespace Sys2Proof.Machine

/-! ## Bytes and fields of a unit made from byte lists -/

theorem ofBytes_header (h b : List Byte) (i : Nat) (range : i < 8) : (Unit96.ofBytes h b).header[i] = h.getD i 0 := by
  simp [Unit96.ofBytes]

theorem ofBytes_byte {h b : List Byte} (long : b.length ≤ 88) (n : Nat) : (Unit96.ofBytes h b).byte n = b.getD n 0 := by
  by_cases range : n < 88
  · rw [Unit96.byte_eq_getElem _ range]
    simp [Unit96.ofBytes]
  · have past : b.length ≤ n := by omega
    simp [Unit96.byte, Unit96.ofBytes, range, past]

theorem ofBytes_zeroFrom {h b : List Byte} {n : Nat} (long : b.length ≤ 88) (ends : b.length ≤ n) (i : Nat) (past : n ≤ i) :
    (Unit96.ofBytes h b).byte i = 0 := by
  rw [ofBytes_byte long, List.getD_eq_default _ _ (ends.trans past)]

/-- R171: what one byte, and two, three and four in a row, read back as. -/
theorem byte_reads {x : Byte} {v : Nat} (b0 : x = BitVec.ofNat 8 v) (range : v < 256) : x.toNat = v := by
  rw [b0, BitVec.toNat_ofNat]
  omega

theorem bytes_read {x y : Byte} {v : Nat} (b0 : x = BitVec.ofNat 8 (v / 256)) (b1 : y = BitVec.ofNat 8 v)
    (range : v < 65536) : x.toNat * 256 + y.toNat = v := by
  simp only [b0, b1, BitVec.toNat_ofNat]
  omega

section
variable {f : Unit96} {n v : Nat}

theorem word16_reads (b0 : f.byte n = BitVec.ofNat 8 (v / 256)) (b1 : f.byte (n + 1) = BitVec.ofNat 8 v)
    (range : v < 65536) : f.word16 n = v := bytes_read b0 b1 range

theorem word24_reads (b0 : f.byte n = BitVec.ofNat 8 (v / 65536)) (b1 : f.byte (n + 1) = BitVec.ofNat 8 (v / 256))
    (b2 : f.byte (n + 2) = BitVec.ofNat 8 v) (range : v < 16777216) : f.word24 n = v := by
  simp only [Unit96.word24, Unit96.word16, b0, b1, b2, BitVec.toNat_ofNat]
  omega

theorem word32_reads (b0 : f.byte n = BitVec.ofNat 8 (v / 65536 / 256)) (b1 : f.byte (n + 1) = BitVec.ofNat 8 (v / 65536))
    (b2 : f.byte (n + 2) = BitVec.ofNat 8 (v / 256)) (b3 : f.byte (n + 2 + 1) = BitVec.ofNat 8 v) (range : v < 4294967296) :
    f.word32 n = v := by
  simp only [Unit96.word32, Unit96.word16, b0, b1, b2, b3, BitVec.toNat_ofNat]
  omega

end

theorem flagAt_eq (b : Bool) (n : Nat) : flagAt b n = if b then 2 ^ n else 0 := by
  cases b <;> simp [flagAt]

theorem flagAt_le (b : Bool) (n : Nat) : flagAt b n ≤ 2 ^ n := by
  cases b <;> simp [flagAt]

theorem vector4_toList {α : Type} (v : Vector α 4) : v.toList = [v[0], v[1], v[2], v[3]] := by
  obtain ⟨⟨l⟩, size⟩ := v
  match l, size with
  | [a, b, c, d], _ => rfl

/-! ## Ports and record flags -/

theorem BlankReason.code_le (r : BlankReason) : r.code ≤ 5 := by cases r <;> decide

theorem PortStatus.code_lt (r : PortRecord) : r.status.code < 16 := by
  cases r with
  | off => decide
  | blanked reason home cadence => exact Nat.lt_of_le_of_lt reason.code_le (by decide)
  | active view home stream delivery timer =>
    have step : delivery.code - 1 ≤ 2 := by cases delivery <;> decide
    cases view <;>
      simp only [PortRecord.status, PortStatus.code, PortRecord.state, PortRecord.delivery, Option.elim_some] <;> omega

/-- R176: each port's four bits. -/
theorem portsCode_digit (ports : Vector PortRecord 4) (p : Port) :
    portsCode (ports.map PortRecord.status) / 16 ^ (3 - p.val) % 16 = ports[p].status.code := by
  have digits : portsCode (ports.map PortRecord.status) =
      ((ports[0].status.code * 16 + ports[1].status.code) * 16 + ports[2].status.code) * 16 + ports[3].status.code := by
    rw [portsCode, Vector.toList_map, vector4_toList]
    simp
  have c0 := PortStatus.code_lt ports[0]
  have c1 := PortStatus.code_lt ports[1]
  have c2 := PortStatus.code_lt ports[2]
  have c3 := PortStatus.code_lt ports[3]
  rw [digits]
  fin_cases p <;> simp <;> omega

theorem portsCode_lt (ports : Vector PortRecord 4) : portsCode (ports.map PortRecord.status) < 65536 := by
  have c0 := PortStatus.code_lt ports[0]
  have c1 := PortStatus.code_lt ports[1]
  have c2 := PortStatus.code_lt ports[2]
  have c3 := PortStatus.code_lt ports[3]
  rw [portsCode, Vector.toList_map, vector4_toList]
  simp
  omega

theorem BillingRecord.flags_lt (r : BillingRecord) : r.flags < 8 := by
  simp only [BillingRecord.flags, flagAt_eq]
  split_ifs <;> decide

theorem recordFlags_digit (l : List BillingRecord) (i : Nat) :
    recordFlags l / 8 ^ i % 8 = match l[i]? with | none => 0 | some r => r.flags := by
  induction l generalizing i with
  | nil => simp [recordFlags]
  | cons r rs ih =>
    have small := r.flags_lt
    cases i with
    | zero => simp [recordFlags]; omega
    | succ i =>
      have rest : recordFlags (r :: rs) / 8 = recordFlags rs := by rw [recordFlags]; omega
      rw [Nat.pow_succ', ← Nat.div_div_eq_div_mul, rest, List.getElem?_cons_succ, ih i]

theorem recordFlags_lt (l : List BillingRecord) : recordFlags l < 8 ^ l.length := by
  induction l with
  | nil => decide
  | cons r rs ih =>
    have small := r.flags_lt
    rw [recordFlags, List.length_cons, Nat.pow_succ]
    omega

/-! ## Record slots -/

theorem slot_length (r : BillingRecord) : r.slot.length = 11 := rfl

theorem slots_length (l : List BillingRecord) : (l.flatMap BillingRecord.slot).length = 11 * l.length := by
  induction l with
  | nil => rfl
  | cons r rs ih =>
    rw [List.flatMap_cons, List.length_append, ih, slot_length, List.length_cons]
    omega

/-- R176: byte `k` of the slot of record `i`. -/
theorem slots_byte {l : List BillingRecord} {i : Nat} {r : BillingRecord} (record : l[i]? = some r) (k : Nat) (range : k < 11) :
    (l.flatMap BillingRecord.slot).getD (11 * i + k) 0 = r.slot.getD k 0 := by
  induction l generalizing i with
  | nil => simp at record
  | cons x xs ih =>
    rw [List.flatMap_cons]
    cases i with
    | zero =>
      obtain rfl : x = r := by simpa using record
      rw [List.getD_append _ _ _ _ (by rw [slot_length]; omega)]
      simp
    | succ i =>
      rw [List.getD_append_right _ _ _ _ (by rw [slot_length]; omega), slot_length,
        show 11 * (i + 1) + k - 11 = 11 * i + k by omega]
      exact ih (by simpa using record)

theorem RecordKind.code_le (k : RecordKind) : k.code ≤ 2 := by cases k <;> decide

end Sys2Proof.Machine
end

section
/-! The layout of a return unit (R176, R177). -/

namespace Sys2Proof.Machine

theorem RefusalReason.code_le (r : RefusalReason) : r.code ≤ 7 := by cases r <;> decide

theorem Occupancy.code_le (o : Occupancy) : o.code ≤ 2 := by cases o <;> decide

theorem summaryBody_length (m : Summary) (v : Bool) : (m.body v).length = 42 := by
  simp [Summary.body, be1, be2, be3, be4]

/-- R176: the flags of header byte 7. -/
def Summary.flags (m : Summary) : Nat :=
  flagAt m.silent 0 + flagAt m.restarted 1 + flagAt m.hold 2 + flagAt m.captureHeld 3 + flagAt m.pinSet 4 +
    flagAt m.lockedOut 5 + flagAt m.strict 6 + flagAt m.frozen 7

theorem Summary.flags_lt (m : Summary) : m.flags < 256 := by
  have f0 := flagAt_le m.silent 0
  have f1 := flagAt_le m.restarted 1
  have f2 := flagAt_le m.hold 2
  have f3 := flagAt_le m.captureHeld 3
  have f4 := flagAt_le m.pinSet 4
  have f5 := flagAt_le m.lockedOut 5
  have f6 := flagAt_le m.strict 6
  have f7 := flagAt_le m.frozen 7
  rw [Summary.flags]
  omega

/-- R176: header bytes 0 to 7. -/
theorem returnHeader_reads (r : SentReturn) (small : r.count < 16) :
    r.frame.header[0].toNat = 4 ∧ r.frame.header[1].toNat * 256 + r.frame.header[2].toNat = 4095 ∧
      r.frame.header[3].toNat = r.count ∧
      r.frame.header[4].toNat * 256 + r.frame.header[5].toNat =
        r.unit.summary.occupancy.code * 16384 + r.unit.summary.room.toNat ∧
      r.frame.header[6].toNat = r.unit.summary.group.val ∧ r.frame.header[7].toNat = r.unit.summary.flags := by
  generalize same : r.unit.summary = m
  have byte (i : Nat) (range : i < 8) : r.frame.header[i] = (be1 4 ++ be2 4095 ++ be1 r.count ++ m.header).getD i 0 :=
    same ▸ ofBytes_header _ _ i range
  have h0 : r.frame.header[0] = BitVec.ofNat 8 4 := byte 0 (by decide)
  have h1 : r.frame.header[1] = BitVec.ofNat 8 (4095 / 256) := byte 1 (by decide)
  have h2 : r.frame.header[2] = BitVec.ofNat 8 4095 := byte 2 (by decide)
  have h3 : r.frame.header[3] = BitVec.ofNat 8 r.count := byte 3 (by decide)
  have h4 : r.frame.header[4] = BitVec.ofNat 8 ((m.occupancy.code * 16384 + m.room.toNat) / 256) := byte 4 (by decide)
  have h5 : r.frame.header[5] = BitVec.ofNat 8 (m.occupancy.code * 16384 + m.room.toNat) := byte 5 (by decide)
  have h6 : r.frame.header[6] = BitVec.ofNat 8 m.group.val := byte 6 (by decide)
  have h7 : r.frame.header[7] = BitVec.ofNat 8 m.flags := byte 7 (by decide)
  have occupancy := m.occupancy.code_le
  have room := m.room.isLt
  exact ⟨byte_reads h0 (by decide), bytes_read h1 h2 (by decide), byte_reads h3 (by omega),
    bytes_read h4 h5 (by omega), byte_reads h6 m.group.isLt, byte_reads h7 m.flags_lt⟩

/-! ## The summary's body -/

/-- R176: body bytes 6 and 7. -/
def Summary.ceilingWord (m : Summary) (variant : Bool) : Nat :=
  m.ceiling * 8192 + m.lastRefusal.elim 0 (·.reason.code) * 1024 + flagAt m.lastClosed.isSome 9 + flagAt variant 6 + m.depth

theorem Summary.ceilingWord_lt {m : Summary} (ceiling : m.ceiling ≤ 7) (depth : m.depth ≤ 48) (variant : Bool) :
    m.ceilingWord variant < 65536 := by
  have reason : m.lastRefusal.elim 0 (·.reason.code) ≤ 7 := by
    cases m.lastRefusal with
    | none => decide
    | some r => exact r.reason.code_le
  have closed := flagAt_le m.lastClosed.isSome 9
  have capture := flagAt_le variant 6
  rw [Summary.ceilingWord]
  omega

section
variable {f : Unit96} {m : Summary} {variant : Bool} {rest : List Byte}
  (byte : ∀ n, f.byte n = (m.body variant ++ rest).getD n 0)
include byte

theorem summaryBody_stay (stay : m.stayNumber < 65536) (clock : m.clock < 4294967296) (ceiling : m.ceiling ≤ 7)
    (depth : m.depth ≤ 48) (next : m.nextSeq < 65536) (spend : m.spend < 16777216) (cap : m.cap < 16777216) :
    f.word16 0 = m.stayNumber ∧ f.word32 2 = m.clock ∧ f.word16 6 = m.ceilingWord variant ∧ f.word16 8 = m.nextSeq ∧
      f.word24 10 = m.spend ∧ f.word24 13 = m.cap := by
  simp only [Summary.body, be4, be3, be2, be1, List.cons_append, List.nil_append] at byte
  exact ⟨word16_reads (byte 0) (byte 1) stay, word32_reads (byte 2) (byte 3) (byte 4) (byte 5) clock,
    word16_reads (byte 6) (byte 7) (Summary.ceilingWord_lt ceiling depth variant), word16_reads (byte 8) (byte 9) next,
    word24_reads (byte 10) (byte 11) (byte 12) spend, word24_reads (byte 13) (byte 14) (byte 15) cap⟩

theorem summaryBody_ports (range : portsCode m.ports < 65536) : f.word16 16 = portsCode m.ports := by
  simp only [Summary.body, be4, be3, be2, be1, List.cons_append, List.nil_append] at byte
  exact word16_reads (byte 16) (byte 17) range

theorem summaryBody_counters (faults : m.formatFaults ≤ 65535) (checks : m.checkFailures ≤ 65535)
    (refusals : m.refusals ≤ 65535) (overruns : m.overruns ≤ 65535) (dropped : m.dropped ≤ 65535)
    (marks : m.marksIgnored ≤ 65535) (replaced : m.keysReplaced ≤ 65535) (displaced : m.keysDisplaced ≤ 65535) :
    f.word16 18 = m.formatFaults ∧ f.word16 20 = m.checkFailures ∧ f.word16 22 = m.refusals ∧ f.word16 24 = m.overruns ∧
      f.word16 26 = m.dropped ∧ f.word16 28 = m.marksIgnored ∧ f.word16 30 = m.keysReplaced ∧
      f.word16 32 = m.keysDisplaced := by
  simp only [Summary.body, be4, be3, be2, be1, List.cons_append, List.nil_append] at byte
  exact ⟨word16_reads (byte 18) (byte 19) (by omega), word16_reads (byte 20) (byte 21) (by omega),
    word16_reads (byte 22) (byte 23) (by omega), word16_reads (byte 24) (byte 25) (by omega),
    word16_reads (byte 26) (byte 27) (by omega), word16_reads (byte 28) (byte 29) (by omega),
    word16_reads (byte 30) (byte 31) (by omega), word16_reads (byte 32) (byte 33) (by omega)⟩

theorem summaryBody_last (refusal : ∀ r ∈ m.lastRefusal, r.clock < 4294967296)
    (closed : ∀ c ∈ m.lastClosed, c.net < 16777216) :
    f.byte 34 = (m.lastRefusal.map (·.kind)).getD 0 ∧ f.word32 35 = (m.lastRefusal.map (·.clock)).getD 0 ∧
      f.word24 39 = (m.lastClosed.map (·.net)).getD 0 := by
  simp only [Summary.body, be4, be3, be2, be1, List.cons_append, List.nil_append] at byte
  have kind : f.byte 34 = BitVec.ofNat 8 (m.lastRefusal.elim 0 (·.kind.toNat)) := byte 34
  have clock : f.word32 35 = m.lastRefusal.elim 0 (·.clock) := by
    refine word32_reads (byte 35) (byte 36) (byte 37) (byte 38) ?_
    cases last : m.lastRefusal with
    | none => decide
    | some r => exact refusal r last
  have net : f.word24 39 = m.lastClosed.elim 0 (·.net) := by
    refine word24_reads (byte 39) (byte 40) (byte 41) ?_
    cases last : m.lastClosed with
    | none => decide
    | some c => exact closed c last
  refine ⟨kind.trans ?_, clock.trans ?_, net.trans ?_⟩
  · cases m.lastRefusal <;> simp
  · cases m.lastRefusal <;> rfl
  · cases m.lastClosed <;> rfl

end

/-! ## The records and the capture -/

/-- Past the summary the bytes are the content's. -/
theorem contentByte {f : Unit96} {m : Summary} {variant : Bool} {content : List Byte}
    (byte : ∀ n, f.byte n = (m.body variant ++ content).getD n 0) (n : Nat) : f.byte (42 + n) = content.getD n 0 := by
  rw [byte, List.getD_append_right _ _ _ _ (by rw [summaryBody_length]; omega), summaryBody_length,
    Nat.add_sub_cancel_left]

section
variable {f : Unit96} {slots : List BillingRecord}
  (byte : ∀ n, f.byte (42 + n) = (ReturnContent.billing slots).body.getD n 0)
include byte

theorem billing_flags (few : slots.length ≤ 4) : f.word16 42 = recordFlags slots := by
  have small := recordFlags_lt slots
  have four : 8 ^ slots.length ≤ 8 ^ 4 := Nat.pow_le_pow_right (by decide) few
  exact word16_reads (byte 0) (byte 1) (by omega)

theorem billing_slotByte {i : Nat} {r : BillingRecord} (record : slots[i]? = some r) (k : Nat) (range : k < 11) :
    f.byte (44 + 11 * i + k) = r.slot.getD k 0 := by
  rw [← slots_byte record k range, show 44 + 11 * i + k = 42 + (2 + (11 * i + k)) by omega, byte]
  have two : (be2 (recordFlags slots)).length = 2 := rfl
  show (be2 (recordFlags slots) ++ slots.flatMap BillingRecord.slot).getD _ 0 = _
  rw [List.getD_append_right _ _ _ _ (by omega), two, Nat.add_sub_cancel_left]

theorem billing_slot {i : Nat} {r : BillingRecord} (record : slots[i]? = some r) (stay : r.stay < 65536)
    (title : r.title < 65536) (time : r.time < 4294967296) (amount : r.amount < 131072) :
    f.word16 (44 + 11 * i) = r.stay ∧ f.word16 (46 + 11 * i) = r.title ∧ f.word32 (48 + 11 * i) = r.time ∧
      f.word24 (52 + 11 * i) = r.kind.code * 4194304 + r.price.val * 131072 + r.amount := by
  have at' (j k : Nat) (place : j = 44 + 11 * i + k) (range : k < 11) : f.byte j = r.slot.getD k 0 :=
    place ▸ billing_slotByte byte record k range
  have kind := r.kind.code_le
  have price := r.price.isLt
  refine ⟨word16_reads (at' _ 0 (by omega) (by decide)) (at' _ 1 (by omega) (by decide)) stay,
    word16_reads (at' _ 2 (by omega) (by decide)) (at' _ 3 (by omega) (by decide)) title,
    word32_reads (at' _ 4 (by omega) (by decide)) (at' _ 5 (by omega) (by decide)) (at' _ 6 (by omega) (by decide))
      (at' _ 7 (by omega) (by decide)) time, ?_⟩
  exact word24_reads (at' _ 8 (by omega) (by decide)) (at' _ 9 (by omega) (by decide)) (at' _ 10 (by omega) (by decide))
    (by omega)

end

section
variable {f : Unit96} {c : Capture} (byte : ∀ n, f.byte (42 + n) = (ReturnContent.capture (some c)).body.getD n 0)
include byte

/-- R176: the capture record's header, its 16 body bytes and its clock. -/
theorem capture_reads (clock : c.clock < 4294967296) : (∀ i : Fin 8, f.byte (44 + i.val) = c.header[i]) ∧
    (∀ i : Fin 16, f.byte (52 + i.val) = c.body[i]) ∧ f.word32 68 = c.clock := by
  have two (v : Nat) : (be2 v).length = 2 := rfl
  have past (n : Nat) : f.byte (44 + n) = (c.header.toList ++ c.body.toList ++ be4 c.clock).getD n 0 := by
    rw [show 44 + n = 42 + (2 + n) by omega, byte]
    show (be2 0 ++ (c.header.toList ++ c.body.toList ++ be4 c.clock)).getD _ 0 = _
    rw [List.getD_append_right _ _ _ _ (by rw [two]; omega), two, Nat.add_sub_cancel_left]
  have clockByte (n : Nat) : f.byte (68 + n) = (be4 c.clock).getD n 0 := by
    rw [show 68 + n = 44 + (24 + n) by omega, past, List.getD_append_right _ _ _ _ (by simp)]
    simp
  refine ⟨fun i => ?_, fun i => ?_, ?_⟩
  · rw [past, List.append_assoc, List.getD_append _ _ _ _ (by simp)]
    simp
  · rw [show 52 + i.val = 44 + (8 + i.val) by omega, past, List.append_assoc, List.getD_append_right _ _ _ _ (by simp),
      List.getD_append _ _ _ _ (by simp)]
    simp
  · exact word32_reads (clockByte 0) (clockByte 1) (clockByte 2) (clockByte 3) clock

end

/-- R176, R177: how long a return unit's body is. -/
theorem ReturnContent.body_length (content : ReturnContent) : content.body.length =
    match content with
    | .billing l => 2 + 11 * l.length
    | .capture none => 2
    | .capture (some _) => 30 := by
  rcases content with l | _ | c
  · rw [ReturnContent.body, List.length_append, slots_length]
    rfl
  · rfl
  · simp [ReturnContent.body, Capture.bytes, be4, be2, be1]

end Sys2Proof.Machine
end

section
/-! The layout of link units (R174), and the statement of every unit's layout. -/

namespace Sys2Proof.Machine

section
variable (h b : List Byte)

/-- R174: a link unit whose header carries its kind and port and no more. -/
theorem linkHeader_reads {kind port : Nat} (smallKind : kind < 256) (smallPort : port < 256) :
    let f := Unit96.ofBytes (be1 kind ++ be1 port) b
    (f.header[0].toNat = kind ∧ f.header[1].toNat = port ∧ f.header[5] = 0 ∧ f.header[6] = 0 ∧ f.header[7] = 0) ∧
      f.header[2] = 0 ∧ f.header[3] = 0 ∧ f.header[4] = 0 :=
  have byte (i : Nat) (range : i < 8) := ofBytes_header (be1 kind ++ be1 port) b i range
  ⟨⟨byte_reads (byte 0 (by decide)) smallKind, byte_reads (byte 1 (by decide)) smallPort, byte 5 (by decide),
    byte 6 (by decide), byte 7 (by decide)⟩, byte 2 (by decide), byte 3 (by decide), byte 4 (by decide)⟩

end

theorem PortState.code_lt (v : PortState) : v.code < 256 := by cases v <;> decide

theorem Delivery.code_lt (d : Delivery) : d.code < 256 := by cases d <;> decide

theorem channelCode_lt (c : Option Channel) : channelCode c < 65536 := by
  cases c with
  | none => decide
  | some c => exact Nat.lt_trans c.isLt (by decide)

theorem channelCode_eq (c : Option Channel) : channelCode c = (c.map (·.val)).getD 65535 := by cases c <;> rfl

/-- R174: the body of a NOTICE. -/
theorem notice_reads {f : Unit96} {n : NoticeFields} (byte : ∀ i, f.byte i = n.body.getD i 0) :
    (f.byte 0).toNat = n.state.code ∧ (f.byte 1).toNat = (n.reason.map BlankReason.code).getD 0 ∧
      (f.byte 2).toNat = n.delivery.elim 0 Delivery.code ∧ f.word16 3 = (n.home.map (·.val)).getD 65535 ∧
      f.word16 5 = (n.shown.map (·.val)).getD 65535 := by
  have reason : n.reason.elim 0 BlankReason.code < 256 := by
    cases n.reason with
    | none => decide
    | some r => exact Nat.lt_of_le_of_lt r.code_le (by decide)
  have delivery : n.delivery.elim 0 Delivery.code < 256 := by
    cases n.delivery with
    | none => decide
    | some d => exact d.code_lt
  rw [← channelCode_eq, ← channelCode_eq]
  refine ⟨byte_reads (byte 0) n.state.code_lt, (byte_reads (byte 1) reason).trans ?_, byte_reads (byte 2) delivery,
    word16_reads (byte 3) (byte 4) (channelCode_lt _), word16_reads (byte 5) (byte 6) (channelCode_lt _)⟩
  cases n.reason <;> rfl

theorem Tier.code_lt (t : Tier) : t.code < 256 := by cases t <;> simp [Tier.code]

/-- R174: the flags of a LIST_ENTRY. -/
theorem ListEntry.flags_lt (e : ListEntry) :
    flagAt e.entitled 0 + flagAt e.priced 1 + flagAt e.offPeak 2 + flagAt e.purchased 3 < 256 := by
  have f0 := flagAt_le e.entitled 0
  have f1 := flagAt_le e.priced 1
  have f2 := flagAt_le e.offPeak 2
  have f3 := flagAt_le e.purchased 3
  omega

theorem Tier.titleCode_eq (t : Tier) : t.titleCode = t.title.getD 0 := by cases t <;> rfl

theorem Tier.packageNumber_lt (t : Tier) : t.packageNumber < 256 := by
  cases t with
  | package n => exact Nat.lt_trans n.isLt (by decide)
  | _ => exact (by decide : 0 < 256)

/-- R174: the body of a LIST_ENTRY. -/
theorem listEntry_reads {f : Unit96} {e : ListEntry} (byte : ∀ i, f.byte i = e.body.getD i 0) (rating : e.rating < 256)
    (title : e.tier.title.getD 0 < 65536) (charge : e.charge < 16777216) (remaining : e.remaining < 4294967296)
    (preview : e.previewLeft < 65536) :
    (f.byte 0).toNat = e.channel.val ∧ (f.byte 1).toNat = e.tier.code ∧ (f.byte 2).toNat = e.rating ∧
      (f.byte 3).toNat = e.tier.packageNumber ∧
      (f.byte 4).toNat = flagAt e.entitled 0 + flagAt e.priced 1 + flagAt e.offPeak 2 + flagAt e.purchased 3 ∧
      f.word16 5 = e.tier.title.getD 0 ∧ f.word24 7 = e.charge ∧ f.word32 10 = e.remaining ∧
      f.word16 14 = e.previewLeft := by
  simp only [ListEntry.body, Tier.titleCode_eq, be4, be3, be2, be1, List.cons_append, List.nil_append] at byte
  exact ⟨byte_reads (byte 0) e.channel.isLt, byte_reads (byte 1) e.tier.code_lt, byte_reads (byte 2) rating,
    byte_reads (byte 3) e.tier.packageNumber_lt, byte_reads (byte 4) e.flags_lt, word16_reads (byte 5) (byte 6) title,
    word24_reads (byte 7) (byte 8) (byte 9) charge, word32_reads (byte 10) (byte 11) (byte 12) (byte 13) remaining,
    word16_reads (byte 14) (byte 15) preview⟩

/-- R174: a QUERY_ROOM reply from body byte 4. -/
theorem report_reads {f : Unit96} {q : RoomReport} (byte : ∀ i, f.byte (4 + i) = q.body.getD i 0) (ceiling : q.ceiling < 256)
    (spend : q.spend < 16777216) (cap : q.cap < 16777216) (alert : ∀ a ∈ q.alert, a.2 < 65536)
    (lockout : ∀ n ∈ q.lockout, n < 65536) (unlocks : ∀ p : Port, ∀ n ∈ q.unlocks[p], n < 65536) :
    (f.byte 4).toNat = q.occupancy.code ∧ (f.byte 5).toNat = flagAt q.alert.isSome 0 ∧
      (f.byte 6).toNat = (q.alert.map (·.1.val)).getD 0 ∧ f.word16 7 = (q.alert.map (·.2)).getD 0 ∧
      (f.byte 9).toNat = q.ceiling ∧
      (f.byte 10).toNat = flagAt q.pinSet 0 + flagAt q.lockout.isSome 1 + flagAt q.strict 2 + flagAt q.frozen 3 ∧
      f.word16 11 = q.lockout.getD 0 ∧ (∀ p : Port, f.word16 (13 + 2 * p.val) = q.unlocks[p].getD 0) ∧
      f.word24 21 = q.spend ∧ f.word24 24 = q.cap := by
  simp only [RoomReport.body, vector4_toList, List.flatMap_cons, List.flatMap_nil, be3, be2, be1, List.cons_append,
    List.nil_append] at byte
  have active : q.alert.isSome.toNat = flagAt q.alert.isSome 0 := by simp [flagAt]
  have channel : q.alert.elim 0 (·.1.val) < 256 := by
    cases q.alert with
    | none => decide
    | some a => exact a.1.isLt
  have left : q.alert.elim 0 (·.2) < 65536 := by
    cases same : q.alert with
    | none => decide
    | some a => exact alert a same
  have f0 := flagAt_le q.alert.isSome 0
  have f1 := flagAt_le q.pinSet 0
  have f2 := flagAt_le q.lockout.isSome 1
  have f3 := flagAt_le q.strict 2
  have f4 := flagAt_le q.frozen 3
  have given {o : Option Nat} (range : ∀ n ∈ o, n < 65536) : o.getD 0 < 65536 := by
    cases o with
    | none => decide
    | some n => exact range n rfl
  refine ⟨byte_reads (byte 0) (Nat.lt_of_le_of_lt q.occupancy.code_le (by decide)), ?_,
    (byte_reads (byte 2) channel).trans ?_, (word16_reads (byte 3) (byte 4) left).trans ?_, byte_reads (byte 5) ceiling,
    byte_reads (byte 6) (by omega), word16_reads (byte 7) (byte 8) (given lockout), ?_,
    word24_reads (byte 17) (byte 18) (byte 19) spend, word24_reads (byte 20) (byte 21) (byte 22) cap⟩
  · exact (byte_reads (byte 1) (by omega)).trans active
  · cases q.alert <;> rfl
  · cases q.alert <;> rfl
  · intro p
    have reads : ∀ p : Port, q.unlocks[p].getD 0 < 65536 := fun p => given (unlocks p)
    match p with
    | 0 => exact word16_reads (byte 9) (byte 10) (reads 0)
    | 1 => exact word16_reads (byte 11) (byte 12) (reads 1)
    | 2 => exact word16_reads (byte 13) (byte 14) (reads 2)
    | 3 => exact word16_reads (byte 15) (byte 16) (reads 3)

end Sys2Proof.Machine
end

section
/-! Every unit the part sends, byte by byte (R174, R176, R177). -/

namespace Sys2Proof.Machine

/-- R176: the bytes of a return unit's body. -/
theorem SentReturn.frame_byte {r : SentReturn} (long : r.unit.content.body.length ≤ 46) (n : Nat) :
    r.frame.byte n = (r.unit.summary.body r.unit.content.isCapture ++ r.unit.content.body).getD n 0 :=
  ofBytes_byte (by rw [List.length_append, summaryBody_length]; omega) n

theorem SentReturn.frame_zeroFrom {r : SentReturn} {n : Nat} (long : r.unit.content.body.length ≤ 46)
    (ends : 42 + r.unit.content.body.length ≤ n) (i : Nat) (past : n ≤ i) : r.frame.byte i = 0 :=
  ofBytes_zeroFrom (by rw [List.length_append, summaryBody_length]; omega)
    (by rw [List.length_append, summaryBody_length]; omega) i past

/-- R156, R158: what a poll composes. -/
def State.polled (s : State) (capture : Bool) : ReturnUnit := if capture then s.captureUnit else s.billingUnit

theorem State.polled_summary (s : State) (capture : Bool) : (s.polled capture).summary = s.summary := by
  cases capture <;> rfl

theorem State.polled_isCapture (s : State) (capture : Bool) : (s.polled capture).content.isCapture = capture := by
  cases capture <;> rfl

theorem State.polled_length (s : State) (capture : Bool) : (s.polled capture).content.body.length ≤ 46 := by
  cases capture with
  | false =>
    have four := List.length_take_le 4 s.bq.queue
    show (ReturnContent.billing (s.bq.queue.take 4)).body.length ≤ 46
    rw [ReturnContent.body_length]
    dsimp only
    omega
  | true =>
    show (ReturnContent.capture s.md.capture).body.length ≤ 46
    rw [ReturnContent.body_length]
    cases s.md.capture <;> simp

/-- R174: the bytes of a link unit. -/
theorem linkUnit_reads {kind port : Nat} {body : List Byte} (smallKind : kind < 256) (smallPort : port < 256)
    (long : body.length ≤ 88) : let f := Unit96.ofBytes (be1 kind ++ be1 port) body
    ((f.header[0].toNat = kind ∧ f.header[1].toNat = port ∧ f.header[5] = 0 ∧ f.header[6] = 0 ∧ f.header[7] = 0) ∧
      f.header[2] = 0 ∧ f.header[3] = 0 ∧ f.header[4] = 0) ∧ (∀ i, f.byte i = body.getD i 0) ∧
      ∀ n, body.length ≤ n → ∀ i, n ≤ i → f.byte i = 0 :=
  ⟨linkHeader_reads body smallKind smallPort, fun i => ofBytes_byte long i, fun _ ends => ofBytes_zeroFrom long ends⟩

theorem port_val_lt (p : Port) : p.val < 256 := Nat.lt_trans p.isLt (by decide)

theorem ReplyCode.code_lt (c : ReplyCode) : c.code < 256 := by cases c <;> decide

theorem RoomReport.body_length (q : RoomReport) : q.body.length = 23 := by
  simp [RoomReport.body, be3, be2, be1, vector4_toList]

/-- Settles O45: a return unit by `returnHeader_reads`, `summaryBody_*`, `billing_*` and `capture_reads`, a link unit by
`linkUnit_reads` and the lemma of its body. -/
theorem unitsSentLayout : Obligations.UnitsSentLayout := by
  unfold Obligations.UnitsSentLayout
  intro flag zeroFrom
  have flags : flag = flagAt := by
    funext b n
    exact (flagAt_eq b n).symm
  clear_value flag
  subst flags
  constructor
  · intro s count capture small stay clock depth next spend cap ceiling counters refusal closed captured records f slots
    have long := s.polled_length capture
    have byte (n : Nat) : f.byte n = (s.summary.body capture ++ (s.polled capture).content.body).getD n 0 := by
      have read := SentReturn.frame_byte (r := ⟨count, s.polled capture⟩) long n
      rwa [s.polled_isCapture capture, s.polled_summary capture] at read
    have content := contentByte byte
    obtain ⟨faults, checks, refusals, overruns, dropped, marks, replaced, displaced⟩ := counters
    have head := returnHeader_reads ⟨count, s.polled capture⟩ small
    rw [s.polled_summary capture] at head
    obtain ⟨kind, stream, stamped, room, group, flagged⟩ := head
    obtain ⟨stays, clocks, word, nexts, spends, caps⟩ := summaryBody_stay byte stay clock ceiling depth next spend cap
    obtain ⟨refused, at', net⟩ := summaryBody_last byte refusal closed
    have occupied : s.summary.occupancy.code = match s.su.occupancy with | .vacant => 0 | .occupied => 1 | .settling => 2 := by
      show s.su.occupancy.code = _
      cases s.su.occupancy <;> rfl
    refine ⟨⟨kind, stream, stamped, room.trans (by rw [occupied]; rfl), group, flagged⟩,
      ⟨stays, clocks, word.trans ?_, nexts, spends, caps⟩, fun p => ?_,
      summaryBody_counters byte faults checks refusals overruns dropped marks replaced displaced,
      ⟨refused, at', net⟩, fun billing => ?_, fun captures => ?_⟩
    · show s.lu.ceiling * 8192 + s.md.lastRefusal.elim 0 (·.reason.code) * 1024 + _ + _ + s.bq.queue.length = _
      obtain _ | ⟨_, why, _⟩ := s.md.lastRefusal
      · rfl
      · cases why <;> rfl
    · rw [show f.word16 16 = _ from summaryBody_ports byte (portsCode_lt s.pc.ports)]
      refine (portsCode_digit s.pc.ports p).trans ?_
      show (s.port p).status.code = _
      obtain _ | ⟨view, _, _, delivery, _⟩ | ⟨why, _, _⟩ := s.port p
      · rfl
      · cases view <;> cases delivery <;> rfl
      · cases why <;> rfl
    · subst billing
      have four : slots.length ≤ 4 := List.length_take_le 4 _
      have word : f.word16 42 = recordFlags slots := billing_flags content four
      have range : recordFlags slots < 8 ^ slots.length := recordFlags_lt slots
      have most : 8 ^ slots.length ≤ 8 ^ 4 := Nat.pow_le_pow_right (by decide) four
      refine ⟨fun i _ => ?_, by rw [word]; omega, fun i r record => ?_, ?_⟩
      · rw [word, recordFlags_digit]
        cases slots[i]? <;> rfl
      · have member : r ∈ s.bq.queue := List.mem_of_mem_take (List.mem_of_getElem? record)
        obtain ⟨stay, title, time, amount⟩ := records r member
        obtain ⟨stayed, titled, timed, word⟩ := billing_slot content record stay title time amount
        refine ⟨stayed, titled, timed, word.trans ?_⟩
        cases r.kind <;> rfl
      · refine SentReturn.frame_zeroFrom long ?_
        show 42 + (ReturnContent.billing slots).body.length ≤ _
        rw [ReturnContent.body_length]
        dsimp only
        omega
    · subst captures
      have ended {n : Nat} (ends : 42 + (ReturnContent.capture s.md.capture).body.length ≤ n) : zeroFrom f n :=
        SentReturn.frame_zeroFrom long ends
      have word : f.word16 42 = 0 := word16_reads (content 0) (content 1) (by decide)
      refine ⟨word, ended ?_, fun none => ended ?_, fun c held => ?_⟩
      · rw [ReturnContent.body_length]
        cases s.md.capture <;> simp
      · rw [ReturnContent.body_length, none]
        exact Nat.le_refl 44
      · have record : (s.polled true).content = .capture (some c) := congrArg ReturnContent.capture held
        rw [record] at content
        exact capture_reads content (captured c held)
  · intro x f header bare reason
    cases x with
    | programme p stream count body =>
      intro smallStream smallCount
      have byte (i : Nat) (range : i < 8) : f.header[i] = _ :=
        ofBytes_header (be1 16 ++ be1 p.val ++ be2 stream ++ be1 count) [] i range
      exact ⟨⟨byte_reads (byte 0 (by decide)) (by decide), byte_reads (byte 1 (by decide)) (port_val_lt p), byte 5 (by decide),
        byte 6 (by decide), byte 7 (by decide)⟩, bytes_read (byte 2 (by decide)) (byte 3 (by decide)) smallStream,
        byte_reads (byte 4 (by decide)) smallCount, rfl⟩
    | blank p r home =>
      obtain ⟨⟨head, plain⟩, byte, zero⟩ := linkUnit_reads (kind := 17) (port := p.val) (body := be1 r.code ++ be2 home.val)
        (by decide) (port_val_lt p) (by simp [be2, be1])
      refine ⟨head, plain, (byte_reads (byte 0) (Nat.lt_of_le_of_lt r.code_le (by decide))).trans ?_,
        word16_reads (byte 1) (byte 2) (Nat.lt_trans home.isLt (by decide)), zero 3 (by simp [be2, be1])⟩
      cases r <;> rfl
    | notice p n =>
      have short : n.body.length = 7 := rfl
      obtain ⟨⟨head, plain⟩, byte, zero⟩ := linkUnit_reads (kind := 18) (port := p.val) (body := n.body)
        (by decide) (port_val_lt p) (by rw [short]; decide)
      obtain ⟨state, why, delivery, home, shown⟩ := notice_reads byte
      refine ⟨head, plain, state.trans ?_, why.trans ?_, delivery.trans ?_, home, shown, zero 7 (by rw [short])⟩
      · cases n.state <;> rfl
      · obtain _ | r := n.reason
        · rfl
        · cases r <;> rfl
      · obtain _ | d := n.delivery
        · rfl
        · cases d <;> rfl
    | listEntry e =>
      intro rating title charge remaining preview
      have short : e.body.length = 16 := by simp [ListEntry.body, be4, be3, be2, be1]
      obtain ⟨⟨head, plain⟩, byte, zero⟩ := linkUnit_reads (kind := 19) (port := e.port.val) (body := e.body)
        (by decide) (port_val_lt e.port) (by rw [short]; decide)
      obtain ⟨channel, tier, rated, package, marks, rest⟩ := listEntry_reads byte rating title charge remaining preview
      obtain ⟨named, charged, left, previewed⟩ := rest
      refine ⟨head, plain, channel, tier.trans ?_, rated, package.trans ?_, marks, named, charged, left, previewed,
        zero 16 (by rw [short])⟩
      · cases e.tier <;> rfl
      · cases e.tier <;> rfl
    | reply r =>
      intro detail
      have short : r.body.length = 4 + (r.report.elim [] RoomReport.body).length := by
        simp [Reply.body, be2, be1]
        omega
      have long : (r.report.elim [] RoomReport.body).length ≤ 23 := by
        cases r.report with
        | none => decide
        | some q => exact Nat.le_of_eq q.body_length
      obtain ⟨⟨head, plain⟩, byte, zero⟩ := linkUnit_reads (kind := 20) (port := r.port.toNat) (body := r.body)
        (by decide) r.port.isLt (by omega)
      have code := byte_reads (byte 1) r.code.code_lt
      have kind : f.byte 0 = r.kind := (byte 0).trans (by simp [Reply.body, be1])
      refine ⟨head, plain, kind, ?_, word16_reads (byte 2) (byte 3) detail, ?_⟩
      · rw [show (f.byte 1).toNat = r.code.code from code]
        cases r.code <;> rfl
      · cases asked : r.report with
        | none => exact zero 4 (by rw [short, asked]; decide)
        | some q =>
          have past (i : Nat) : f.byte (4 + i) = q.body.getD i 0 := by
            have four : (be1 r.kind.toNat ++ be1 r.code.code ++ be2 r.detail).length = 4 := rfl
            refine (byte (4 + i)).trans ?_
            rw [Reply.body, asked, List.getD_append_right _ _ _ _ (by omega), four, Nat.add_sub_cancel_left]
            rfl
          intro ceiling spend cap alert lockout unlocks
          obtain ⟨occupancy, rest⟩ := report_reads past ceiling spend cap alert lockout unlocks
          obtain ⟨active, channel, left, ceiled, marks, locked, unlocked, spent, capped⟩ := rest
          refine ⟨occupancy.trans ?_, active, channel, left, ceiled, marks, locked, unlocked, spent, capped,
            zero 27 (by rw [short, asked, Option.elim_some, q.body_length])⟩
          cases q.occupancy <;> rfl

end Sys2Proof.Machine
end

section
/-! The entries of a TABLE_DATA one after the other (R34): the burst, and the writes of a PRICE and of a REMAP burst. -/

namespace Sys2Proof.Machine

/-! ## The burst -/

/-- R34: the entries up to the window's last index. -/
def Burst.room (b : Burst) : Nat := b.last + 1 - b.pointer

/-- R34, R35: MD's record after `n` entries of a burst. -/
def ManagementDecoder.afterEntries (md : ManagementDecoder) (b : Burst) (n : Nat) : ManagementDecoder :=
  { md with
    burst := if b.pointer + min n b.room ≤ b.last then some { b with pointer := b.pointer + min n b.room } else none
    overruns := if min n b.room = n then md.overruns else min (md.overruns + (n - min n b.room)) 65535 }

/-- R34: one entry, in MD's record. -/
def ManagementDecoder.passEntry (md : ManagementDecoder) : ManagementDecoder :=
  match md.burst with
  | none => { md with overruns := raiseCounter md.overruns }
  | some b => { md with burst := b.advance }

theorem ManagementDecoder.passEntry_none {md : ManagementDecoder} (closed : md.burst = none) :
    md.passEntry = { md with overruns := raiseCounter md.overruns } := by
  unfold ManagementDecoder.passEntry
  split
  · rfl
  · next b open' => exact absurd (closed.symm.trans open') (by simp)

section
variable {md : ManagementDecoder} {b : Burst} (inside : b.pointer ≤ b.last)
include inside

theorem ManagementDecoder.afterEntries_open {n : Nat} (more : n < b.room) :
    md.afterEntries b n = { md with burst := some { b with pointer := b.pointer + n } } := by
  rw [Burst.room] at more
  have all : min n b.room = n := by rw [Burst.room]; omega
  rw [ManagementDecoder.afterEntries, all, if_pos (by omega), if_pos rfl]

theorem ManagementDecoder.afterEntries_closed {n : Nat} (full : b.room ≤ n) :
    md.afterEntries b n = { md with
      burst := none, overruns := if b.room = n then md.overruns else min (md.overruns + (n - b.room)) 65535 } := by
  have some' : b.pointer + b.room = b.last + 1 := by rw [Burst.room]; omega
  rw [ManagementDecoder.afterEntries, Nat.min_eq_right full, if_neg (by omega)]

theorem ManagementDecoder.passEntry_afterEntries (n : Nat) :
    (md.afterEntries b n).passEntry = md.afterEntries b (n + 1) := by
  have some' : b.pointer + b.room = b.last + 1 := by rw [Burst.room]; omega
  rcases Nat.lt_trichotomy (n + 1) b.room with more | last | full
  · rw [afterEntries_open inside (by omega), afterEntries_open inside more, passEntry]
    simp only [Burst.advance]
    rw [if_pos (by omega), Nat.add_assoc]
  · rw [afterEntries_open inside (by omega), afterEntries_closed inside (by omega), if_pos last.symm, passEntry]
    simp only [Burst.advance]
    rw [if_neg (by omega)]
  · rw [afterEntries_closed inside (by omega), afterEntries_closed inside (by omega), passEntry]
    simp only [raiseCounter, counterMax]
    congr 1
    split_ifs <;> omega

end

theorem State.takeEntry_closed {s : State} (closed : s.md.burst = none) (u : Unit96) (t : Table) (i : Nat) :
    State.takeEntry u t s i = { s with md := s.md.passEntry } := by
  rw [ManagementDecoder.passEntry_none closed, State.takeEntry]
  split
  · rfl
  · next b open' => exact absurd (closed.symm.trans open') (by simp)

theorem State.takeEntry_open {s : State} {b : Burst} (open' : s.md.burst = some b) (u : Unit96) (t : Table) (i : Nat) :
    State.takeEntry u t s i = { s.writeEntry u t i b.pointer with md := s.md.passEntry } := by
  have same := s.writeEntry_md u t i b.pointer
  rw [State.takeEntry, ManagementDecoder.passEntry, open']
  dsimp only
  rw [same]

theorem State.takeEntry_md (s : State) (u : Unit96) (t : Table) (i : Nat) : (State.takeEntry u t s i).md = s.md.passEntry := by
  cases old : s.md.burst with
  | none => rw [State.takeEntry_closed old]
  | some b => rw [State.takeEntry_open old]

/-- R34: the first `n` entries of a unit. -/
def State.entries (s : State) (u : Unit96) (t : Table) (n : Nat) : State := (List.range n).foldl (State.takeEntry u t) s

theorem State.entries_succ (s : State) (u : Unit96) (t : Table) (n : Nat) :
    s.entries u t (n + 1) = State.takeEntry u t (s.entries u t n) n := by
  rw [State.entries, List.range_succ, List.foldl_append]
  rfl

theorem State.entries_md {s : State} {b : Burst} (open' : s.md.burst = some b) (inside : b.pointer ≤ b.last) (u : Unit96)
    (t : Table) (n : Nat) : (s.entries u t n).md = s.md.afterEntries b n := by
  induction n with
  | zero =>
    rw [ManagementDecoder.afterEntries_open inside (by rw [Burst.room]; omega)]
    show s.md = { s.md with burst := some b }
    rw [← open']
  | succ n ih => rw [State.entries_succ, State.takeEntry_md, ih, ManagementDecoder.passEntry_afterEntries inside]

section
variable {s : State} {b : Burst} (open' : s.md.burst = some b) (inside : b.pointer ≤ b.last) (u : Unit96) (t : Table) {n : Nat}
include open' inside

/-- R34, step 3: an entry that finds the burst open is written at the pointer. -/
theorem State.entries_write (more : n < b.room) : ∃ md, s.entries u t (n + 1) =
    { (s.entries u t n).writeEntry u t n (b.pointer + n) with md := md } := by
  have md := State.entries_md open' inside u t n
  rw [ManagementDecoder.afterEntries_open inside more] at md
  rw [State.entries_succ, State.takeEntry_open (b := { b with pointer := b.pointer + n }) (by rw [md])]
  exact ⟨_, rfl⟩

theorem State.entries_drop (full : b.room ≤ n) : ∃ md, s.entries u t (n + 1) = { s.entries u t n with md := md } := by
  have md := State.entries_md open' inside u t n
  rw [ManagementDecoder.afterEntries_closed inside full] at md
  rw [State.entries_succ, State.takeEntry_closed (by rw [md])]
  exact ⟨_, rfl⟩

end

/-! ## A PRICE burst -/

/-- What the entries of a PRICE burst leave: the Price Table and MD's record alone have changed. -/
structure PricesWritten (u : Unit96) (s : State) (b : Burst) (n : Nat) (t : State) : Prop where
  rest   : t = { s with tm := { s.tm with prices := t.tm.prices }, md := t.md }
  prices : ∀ k : PriceCode, t.price k =
    if b.pointer ≤ k.val ∧ k.val < b.pointer + min n b.room then priceEntry u (5 + 13 * (k.val - b.pointer)) else s.price k

theorem getElem_set_fin {α : Type} {n : Nat} (v : Vector α n) (i k : Fin n) (x : α) :
    (v.set i x)[k] = if k = i then x else v[k] := by
  refine (Vector.getElem_set i.isLt k.isLt).trans ?_
  exact if_congr (by rw [Fin.ext_iff, eq_comm]) rfl rfl

theorem State.writePrice_price (s : State) (i k : PriceCode) (e : Option PriceEntry) :
    (s.writePrice i e).price k = if k = i then e else s.price k :=
  getElem_set_fin _ i k e

theorem State.entries_prices {u : Unit96} {s : State} {b : Burst} (open' : s.md.burst = some b) (inside : b.pointer ≤ b.last)
    (last : b.last ≤ 31) (n : Nat) : PricesWritten u s b n (s.entries u .price n) := by
  induction n with
  | zero =>
    refine ⟨rfl, fun k => ?_⟩
    rw [if_neg (by omega)]
    rfl
  | succ n ih =>
    obtain ⟨rest, prices⟩ := ih
    by_cases more : n < b.room
    · obtain ⟨md, same⟩ := State.entries_write open' inside u .price more
      rw [same]
      generalize s.entries u .price n = t at rest prices
      refine ⟨?_, fun k => ?_⟩
      · rw [rest]
        rfl
      · rw [Burst.room] at more
        have index : (Fin.ofNat 32 (b.pointer + n)).val = b.pointer + n := Nat.mod_eq_of_lt (by omega)
        refine (t.writePrice_price _ k _).trans ?_
        rw [prices, Nat.min_eq_left (by rw [Burst.room]; omega), Nat.min_eq_left (by rw [Burst.room]; omega)]
        by_cases here : k = Fin.ofNat 32 (b.pointer + n)
        · have place : k.val = b.pointer + n := by rw [here, index]
          rw [if_pos here, if_pos (by omega), place, Nat.add_sub_cancel_left]
          rfl
        · have apart : k.val ≠ b.pointer + n := fun same => here (Fin.ext (same.trans index.symm))
          rw [if_neg here]
          exact if_congr (by omega) rfl rfl
    · obtain ⟨md, same⟩ := State.entries_drop open' inside u .price (Nat.le_of_not_lt more)
      rw [same]
      generalize s.entries u .price n = t at rest prices
      refine ⟨?_, fun k => ?_⟩
      · rw [rest]
      · rw [show min (n + 1) b.room = min n b.room by omega]
        exact prices k

end Sys2Proof.Machine
end

section
/-! The statements about a PRICE and a REMAP burst (R22, R24, R34). -/

namespace Sys2Proof.Machine

/-- A TABLE_DATA that is taken and whose entries make no link unit. -/
theorem exec_tableData_entries {u : Unit96} {s : State} {b : Burst} {table : Table} (spelled : u.spellsMgmt 5 = true)
    (taken : s.Takes u) (open' : s.md.burst = some b) (kind : b.table = table) (tag : b.tag = u.body[3])
    (some' : 1 ≤ u.body[4].toNat) (few : u.body[4].toNat ≤ table.maxEntries)
    (silent : (s.entries u table u.body[4].toNat).rl = s.rl) :
    exec (.tableData u) s = .next (s.entries u table u.body[4].toNat) := by
  have all : s.takeData u = s.entries u table u.body[4].toNat := by
    subst kind
    exact State.takeData_taken open' tag some' few
  rw [exec_tableData spelled taken, State.untied_silent (by rw [all, silent]) (by rw [all, silent]), all]

/-- Settles O15: the writes by `State.entries_prices`, the burst by `State.entries_md`. -/
theorem priceBurstWrites : Obligations.PriceBurstWrites := by
  intro u s b spelled taken open' kind tag some' few inside last n written
  obtain ⟨rest, prices⟩ := State.entries_prices (u := u) open' inside last n
  have md := State.entries_md open' inside u .price n
  have silent : (s.entries u .price n).rl = s.rl := by rw [rest]
  exact ⟨_, exec_tableData_entries spelled taken open' kind tag some' few silent, rest, prices, md⟩

/-! ## A REMAP burst -/

/-- All but the ports' records is as it was. -/
def OnlyPorts (s t : State) : Prop := t = { s with pc := { s.pc with ports := t.pc.ports } }

theorem OnlyPorts.refl (s : State) : OnlyPorts s s := rfl

theorem OnlyPorts.trans {s t u : State} (h : OnlyPorts s t) (k : OnlyPorts t u) : OnlyPorts s u := by
  unfold OnlyPorts at *
  rw [k, h]

theorem State.restream_onlyPorts (s : State) (p : Port) : OnlyPorts s (s.restream p) := by
  unfold State.restream
  split <;> rfl

theorem State.restreamAll_onlyPorts (s : State) : OnlyPorts s s.restreamAll :=
  List.foldlRecOn (motive := fun t : State => OnlyPorts s t) _ _ (.refl s) fun t ih p _ => ih.trans (t.restream_onlyPorts p)

/-- R22, R24: a Stream Remap Table write changes the table and the ports' records. -/
theorem State.writeRemap_eq (s : State) (i : Fin 8) (e : Option RemapEntry) : s.writeRemap i e =
    { s with sf := { s.sf with remap := s.sf.remap.set i e }, pc := { s.pc with ports := (s.writeRemap i e).pc.ports } } :=
  State.restreamAll_onlyPorts _

theorem State.writeRemap_port (s : State) (i : Fin 8) (e : Option RemapEntry) (p : Port) :
    (s.writeRemap i e).port p = (s.writeRemap i e).restreamed (s.port p) := by
  unfold State.writeRemap
  have port := ({ s with sf := { s.sf with remap := s.sf.remap.set i e } } : State).restreamAll_port p
  have resolve := ({ s with sf := { s.sf with remap := s.sf.remap.set i e } } : State).restreamAll_ports.resolve
  refine port.trans ?_
  show State.restreamed _ (s.port p) = _
  generalize ({ s with sf := { s.sf with remap := s.sf.remap.set i e } } : State) = t at resolve
  cases s.port p with
  | active v home stream d timer => simp only [State.restreamed, resolve]
  | _ => rfl

/-- A port's record after a resolution is the last resolution's. -/
theorem State.restreamed_restreamed (s t : State) (r : PortRecord) : t.restreamed (s.restreamed r) = t.restreamed r := by
  cases r <;> rfl

/-- What the entries of a REMAP burst leave: the table, MD's record and the ports' records alone have changed. -/
structure RemapWritten (u : Unit96) (s : State) (b : Burst) (n : Nat) (t : State) : Prop where
  rest  : t = { s with sf := { s.sf with remap := t.sf.remap }, md := t.md, pc := { s.pc with ports := t.pc.ports } }
  remap : ∀ i : Fin 8, t.sf.remap[i] =
    if b.pointer ≤ i.val ∧ i.val < b.pointer + min n b.room then remapEntry u (5 + 7 * (i.val - b.pointer)) else s.sf.remap[i]
  ports : (n = 0 ∧ ∀ p : Port, t.port p = s.port p) ∨ (1 ≤ n ∧ ∀ p : Port, t.port p = t.restreamed (s.port p))

theorem State.entries_remap {u : Unit96} {s : State} {b : Burst} (open' : s.md.burst = some b) (inside : b.pointer ≤ b.last)
    (last : b.last ≤ 7) (n : Nat) : RemapWritten u s b n (s.entries u .remap n) := by
  have some' : 1 ≤ b.room := by rw [Burst.room]; omega
  induction n with
  | zero =>
    refine ⟨rfl, fun i => ?_, .inl ⟨rfl, fun p => rfl⟩⟩
    rw [if_neg (by omega)]
    rfl
  | succ n ih =>
    obtain ⟨rest, remap, ports⟩ := ih
    by_cases more : n < b.room
    · obtain ⟨md, same⟩ := State.entries_write open' inside u .remap more
      rw [same]
      generalize s.entries u .remap n = t at rest remap ports
      have wrote := t.writeRemap_eq (Fin.ofNat 8 (b.pointer + n)) (remapEntry u (5 + 7 * n))
      have port := t.writeRemap_port (Fin.ofNat 8 (b.pointer + n)) (remapEntry u (5 + 7 * n))
      show RemapWritten u s b (n + 1) { t.writeRemap (Fin.ofNat 8 (b.pointer + n)) (remapEntry u (5 + 7 * n)) with md := md }
      generalize t.writeRemap (Fin.ofNat 8 (b.pointer + n)) (remapEntry u (5 + 7 * n)) = w at wrote port
      refine ⟨?_, fun k => ?_, .inr ⟨by omega, fun p => ?_⟩⟩
      · rw [wrote, rest]
      · rw [Burst.room] at more
        have index : (Fin.ofNat 8 (b.pointer + n)).val = b.pointer + n := Nat.mod_eq_of_lt (by omega)
        have set : w.sf.remap = t.sf.remap.set (Fin.ofNat 8 (b.pointer + n)) (remapEntry u (5 + 7 * n)) := by rw [wrote]
        show w.sf.remap[k] = _
        rw [set, Nat.min_eq_left (by rw [Burst.room]; omega), getElem_set_fin]
        rw [Nat.min_eq_left (by rw [Burst.room]; omega)] at remap
        by_cases here : k = Fin.ofNat 8 (b.pointer + n)
        · have place : k.val = b.pointer + n := by rw [here, index]
          rw [if_pos here, if_pos (by omega), place, Nat.add_sub_cancel_left]
        · have apart : k.val ≠ b.pointer + n := fun same => here (Fin.ext (same.trans index.symm))
          rw [if_neg here, remap]
          exact if_congr (by omega) rfl rfl
      · show w.port p = w.restreamed (s.port p)
        obtain ⟨_, same⟩ | ⟨_, same⟩ := ports
        · rw [port, same]
        · rw [port, same, State.restreamed_restreamed]
    · obtain ⟨md, same⟩ := State.entries_drop open' inside u .remap (Nat.le_of_not_lt more)
      rw [same]
      generalize s.entries u .remap n = t at rest remap ports
      refine ⟨?_, fun k => ?_, .inr ⟨by omega, ?_⟩⟩
      · rw [rest]
      · rw [show min (n + 1) b.room = min n b.room by omega]
        exact remap k
      · obtain ⟨none, _⟩ | ⟨_, ports⟩ := ports
        · omega
        · exact ports

/-- Settles O16: the writes and the ports by `State.entries_remap`, the burst by `State.entries_md`. -/
theorem remapBurstReresolves : Obligations.RemapBurstReresolves := by
  intro u s b spelled taken open' kind tag some' few inside last n written
  obtain ⟨rest, remap, ports⟩ := State.entries_remap (u := u) open' inside last n
  have md := State.entries_md open' inside u .remap n
  have silent : (s.entries u .remap n).rl = s.rl := by rw [rest]
  refine ⟨_, exec_tableData_entries spelled taken open' kind tag some' few silent, rest, remap, md, fun p => ?_⟩
  obtain ⟨none, _⟩ | ⟨_, ports⟩ := ports
  · exact absurd none (by omega)
  · rw [ports]
    cases s.port p <;> rfl

end Sys2Proof.Machine
end

section
/-! What a signal timer and a blank cadence do at a port and on the list, and a local millisecond (R90, R91, R93). -/

namespace Sys2Proof.Machine

/-! ## One unit joins, or none -/

theorem State.notifyChange_eq (s before : State) (p : Port) : s.notifyChange before p = { s with rl := { s.rl with
    transmit := s.rl.transmit ++ if s.notice p = before.notice p then [] else [.notice p (s.notice p)] } } := by
  unfold State.notifyChange
  split
  · simp
  · rfl

theorem State.sendData_eq (s : State) (u : LinkUnit) : s.sendData u = { s with rl := { s.rl with
    transmit := s.rl.transmit ++ if s.rl.transmit.length < 64 then [u] else [] } } := by
  unfold State.sendData
  show (if s.rl.transmit.length < 64 then s.send u else s) = _
  split
  · rfl
  · simp

/-- R94: two records of one place differ in their notice as they do in their delivery. -/
theorem notice_delivery_iff (v : View) (home : Channel) (a b : Option Nat) (d e : Delivery) (m n : Nat) (alert : Option Alert) :
    (PortRecord.active v home a d m).noticeFields alert = (PortRecord.active v home b e n).noticeFields alert ↔ d = e := by
  cases v <;> simp [PortRecord.noticeFields, PortRecord.state, PortRecord.reason, PortRecord.home, PortRecord.shown,
    PortRecord.delivery, PortRecord.isAlert]

section
variable {s : State} {p : Port}

theorem State.setPort_notice (r : PortRecord) : (s.setPort p r).notice p = r.noticeFields s.su.alert := by
  rw [State.notice, State.setPort_port_self]
  rfl

/-- R91: a running timer that runs out. -/
theorem State.expireSignal_eq {v : View} {home : Channel} {stream : Option Nat} {d : Delivery} {n : Nat}
    (port : s.port p = .active v home stream d (n + 1)) : s.expireSignal p =
      { s.setPort p (.active v home stream .noSignal 0) with rl := { s.rl with transmit := s.rl.transmit ++
        if d = .noSignal then [] else
          [.notice p ((PortRecord.active v home stream .noSignal 0).noticeFields s.su.alert)] } } := by
  have changes : (PortRecord.active v home stream .noSignal 0).noticeFields s.su.alert = s.notice p ↔ d = .noSignal := by
    rw [State.notice, port, notice_delivery_iff, eq_comm]
  rw [State.expireSignal, port]
  dsimp only
  rw [State.notifyChange_eq, State.setPort_notice]
  simp only [changes]
  rfl

theorem State.expireSignal_other (idle : ∀ v home stream d n, s.port p ≠ .active v home stream d (n + 1)) :
    s.expireSignal p = s := by
  unfold State.expireSignal
  split
  · next v home stream d n port => exact absurd port (idle v home stream d n)
  · rfl

/-- R93: a cadence that runs out. -/
theorem State.expireCadence_eq {r : BlankReason} {home : Channel} {n : Nat} (port : s.port p = .blanked r home n) :
    s.expireCadence p = { s.setPort p (.blanked r home 500) with rl := { s.rl with transmit := s.rl.transmit ++
      if s.rl.transmit.length < 64 then [.blank p r home] else [] } } := by
  rw [State.expireCadence, port]
  exact State.sendData_eq _ _

theorem State.expireCadence_other (other : (s.port p).state ≠ .blanked) : s.expireCadence p = s := by
  unfold State.expireCadence
  split
  · next r home n port => exact absurd (by rw [port]; rfl) other
  · rfl

end

/-- Settles O28: each row's event by its case (`State.expireSignal_eq`, `State.expireCadence_eq`, `State.settleHeld_below`). -/
theorem timeRowsTouchOneField : Obligations.TimeRowsTouchOneField := by
  intro s p
  refine ⟨rfl, fun free => ?_, fun due locked below => ?_, rfl, fun v home stream d n port => ?_, fun idle => ?_,
    fun r home n port => ?_, fun other => ?_⟩
  · show Host.Outcome.next _ = _
    rw [free]
  · have ended : (s.endLockout due).settleHeld = s.endLockout due := State.settleHeld_below below
    show Host.Outcome.next (match s.lu.lockout with | some due => _ | none => _) = _
    rw [locked]
    dsimp only
    rw [State.untied_silent (by rw [ended]; rfl) (by rw [ended]; rfl), ended]
    rfl
  · refine ⟨_, rfl, ?_⟩
    have ends := State.expireSignal_eq port
    have fell := State.untied_fellIn (s := s) (event := fun x => x.expireSignal p) ⟨_, by rw [ends]⟩
    have notice : (s.untied fun x => x.expireSignal p).notice p =
        (PortRecord.active v home stream .noSignal 0).noticeFields s.su.alert := by
      show (s.expireSignal p).notice p = _
      rw [ends]
      exact State.setPort_notice _
    rw [notice]
    exact ends ▸ fell
  · show Host.Outcome.next _ = _
    have same := State.expireSignal_other idle
    rw [State.untied_silent (by rw [same]) (by rw [same]), same]
  · refine ⟨_, rfl, ?_⟩
    have ends := State.expireCadence_eq port
    have fell := State.untied_fellIn (s := s) (event := fun x => x.expireCadence p) ⟨_, by rw [ends]⟩
    exact ends ▸ fell
  · show Host.Outcome.next _ = _
    have same := State.expireCadence_other other
    rw [State.untied_silent (by rw [same]) (by rw [same]), same]

/-! ## One local millisecond at every port -/

/-- What an operation at one port does to the list, run over several ports: each port's units in their order. `P`, and
`Q` of the port's record, is what the units are made under. -/
theorem foldl_link {f : State → Port → State} {P : State → Prop} {Q : Port → PortRecord → Prop}
    {units : List LinkUnit → Port → List LinkUnit} (keep : ∀ t p, P t → P (f t p))
    (other : ∀ t p q, q ≠ p → (f t p).port q = t.port q)
    (link : ∀ t p, P t → Q p (t.port p) → (f t p).rl = { t.rl with transmit := units t.rl.transmit p }) :
    ∀ (ps : List Port) (t : State), P t → ps.Nodup → (∀ p ∈ ps, Q p (t.port p)) →
      (ps.foldl f t).rl = { t.rl with transmit := ps.foldl units t.rl.transmit }
  | [], t, _, _, _ => rfl
  | p :: ps, t, h, nodup, old => by
    obtain ⟨fresh, nodup'⟩ := List.nodup_cons.mp nodup
    have here := link t p h (old p List.mem_cons_self)
    rw [List.foldl_cons, foldl_link keep other link ps _ (keep t p h) nodup' fun q member => ?_, here]
    · rfl
    · rw [other t p q fun e : q = p => fresh (e ▸ member)]
      exact old q (List.mem_cons_of_mem _ member)

/-- R90, R91, R93: a port's record after one local millisecond. -/
def PortRecord.afterMillisecond : PortRecord → PortRecord
  | .off => .off
  | .active v home stream d 0 => .active v home stream d 0
  | .active v home stream _ 1 => .active v home stream .noSignal 0
  | .active v home stream d (n + 2) => .active v home stream d (n + 1)
  | .blanked r home n => .blanked r home (if n ≤ 1 then 500 else n - 1)

/-- R91, R93, R167: the list after a port's unit of one local millisecond, if it makes one. -/
def PortRecord.millisecondUnits (r : PortRecord) (alert : Option Alert) (p : Port) (list : List LinkUnit) : List LinkUnit :=
  match r with
  | .active v home stream d 1 => if d = .noSignal then list else
      list ++ [.notice p ((PortRecord.active v home stream .noSignal 0).noticeFields alert)]
  | .blanked r home n => if n ≤ 1 ∧ list.length < 64 then list ++ [.blank p r home] else list
  | _ => list

/-- R90, R91, R93: one local millisecond at one port. -/
theorem State.portMillisecond_eq (s : State) (p : Port) : s.portMillisecond p =
    { s.setPort p (s.port p).afterMillisecond with
      rl := { s.rl with transmit := (s.port p).millisecondUnits s.su.alert p s.rl.transmit } } := by
  have stays : s.setPort p (s.port p) = s := by
    have ports : s.pc.ports.set p (s.port p) = s.pc.ports := Vector.set_getElem_self _
    rw [State.setPort, ports]
  have cadence {r : BlankReason} {home : Channel} {n : Nat} (port : s.port p = .blanked r home n) (small : n ≤ 1) :
      s.expireCadence p = { s.setPort p (PortRecord.blanked r home n).afterMillisecond with
        rl := { s.rl with transmit := (PortRecord.blanked r home n).millisecondUnits s.su.alert p s.rl.transmit } } := by
    rw [State.expireCadence_eq port, PortRecord.afterMillisecond, PortRecord.millisecondUnits, if_pos small]
    simp only [small, true_and]
    split <;> simp
  cases port : s.port p with
  | off =>
    rw [port] at stays
    rw [State.portMillisecond, port, PortRecord.afterMillisecond, stays]
    rfl
  | active v home stream d n =>
    match n with
    | 0 =>
      rw [port] at stays
      rw [State.portMillisecond, port, PortRecord.afterMillisecond, stays]
      rfl
    | 1 =>
      rw [State.portMillisecond, port]
      dsimp only
      rw [State.expireSignal_eq port, PortRecord.afterMillisecond, PortRecord.millisecondUnits]
      split <;> simp
    | n + 2 =>
      rw [State.portMillisecond, port]
      rfl
  | blanked r home n =>
    match n with
    | 0 =>
      rw [State.portMillisecond, port]
      exact cadence port (by decide)
    | 1 =>
      rw [State.portMillisecond, port]
      exact cadence port (by decide)
    | n + 2 =>
      rw [State.portMillisecond, port, PortRecord.afterMillisecond, PortRecord.millisecondUnits]
      simp
      rfl

theorem State.portMillisecond_port (s : State) (p q : Port) : (s.portMillisecond p).port q =
    if q = p then (s.port p).afterMillisecond else s.port q := by
  rw [State.portMillisecond_eq]
  exact s.setPort_port p _ q

/-- The ports that a local millisecond reaches. -/
theorem State.mem_running (s : State) (q : Port) :
    q ∈ s.arranged (fun p => !(s.port p).isOff) ↔ (s.port q).isOff = false := by
  rw [State.mem_arranged]
  simp

theorem State.millisecond_port (s : State) (q : Port) : s.millisecond.port q = (s.port q).afterMillisecond := by
  have nodup := s.arranged_nodup fun p => !(s.port p).isOff
  have port := foldl_port (f := State.portMillisecond) (g := fun _ => PortRecord.afterMillisecond) (P := fun _ => True)
    (fun _ _ _ => trivial) (fun t p q _ => t.portMillisecond_port p q) _
    (s.afterArranging fun p => !(s.port p).isOff) trivial nodup q
  refine port.trans ?_
  show (if _ then (s.port q).afterMillisecond else s.port q) = _
  split
  · rfl
  · next off =>
    rw [State.mem_running] at off
    cases old : s.port q with
    | off => rfl
    | _ => rw [old] at off; exact absurd rfl off

theorem State.millisecond_previews (s : State) : s.millisecond.pc.previews = s.pc.previews :=
  foldl_previews (fun t p => by rw [State.portMillisecond_eq]; rfl) _ _

/-- R91, R93: the list after a local millisecond, the ports that are off counted at the end of the order. -/
theorem State.millisecond_link (s : State) : ∃ order : List Port, order.Perm allPorts ∧ s.millisecond.rl =
    { s.rl with transmit := order.foldl (fun list p => (s.port p).millisecondUnits s.su.alert p list) s.rl.transmit } := by
  have link := foldl_link (f := State.portMillisecond) (P := fun t => t.su = s.su) (Q := fun p r => r = s.port p)
    (units := fun list p => (s.port p).millisecondUnits s.su.alert p list)
    (fun t p su => by rw [State.portMillisecond_eq]; exact su)
    (fun t p q apart => (t.portMillisecond_port p q).trans (if_neg apart))
    (fun t p su same => by rw [State.portMillisecond_eq, same, su]) _
    (s.afterArranging fun p => !(s.port p).isOff) rfl (s.arranged_nodup fun p => !(s.port p).isOff) (fun _ _ => rfl)
  have silent : ∀ (off : List Port) (list : List LinkUnit), (∀ p ∈ off, (s.port p).isOff = true) →
      off.foldl (fun list p => (s.port p).millisecondUnits s.su.alert p list) list = list := by
    intro off
    induction off with
    | nil => exact fun _ _ => rfl
    | cons p ps ih =>
      intro list all
      have here : s.port p = .off := by
        have := all p List.mem_cons_self
        cases old : s.port p with
        | off => rfl
        | _ => rw [old] at this; cases this
      rw [List.foldl_cons, here]
      exact ih list fun q member => all q (List.mem_cons_of_mem _ member)
  refine ⟨s.arranged (fun p => !(s.port p).isOff) ++ allPorts.filter fun p => (s.port p).isOff, ?_, ?_⟩
  · refine ((s.arranged_perm _).append_right _).trans (List.perm_append_comm.trans ?_)
    exact List.filter_append_perm _ _
  · rw [List.foldl_append, silent _ _ fun p member => (List.mem_filter.mp member).2]
    exact link

/-- Settles O2: `State.portMillisecond_eq` at every port. -/
theorem idleStepIsOneMillisecond : Obligations.IdleStepIsOneMillisecond := by
  intro s idle
  have run : step s = .next (s.untied State.millisecond) := by rw [step, idle]
  have frame := s.millisecond_ports
  have ports := s.millisecond_port
  have previews := s.millisecond_previews
  obtain ⟨order, perm, link⟩ := s.millisecond_link
  have grows : ∃ l, s.millisecond.rl.transmit = s.rl.transmit ++ l := by
    obtain ⟨l, _, link⟩ := frame.link
    exact ⟨l, by rw [link]⟩
  have fell := State.untied_fellIn grows
  have port : (s.untied State.millisecond).port = s.millisecond.port := rfl
  have alert : (s.untied State.millisecond).su = s.su := frame.su
  refine ⟨_, _, run, fell, ⟨frame.su, frame.fi, frame.sf, frame.md, frame.tm, frame.lu, frame.pu, frame.bq, frame.room,
    frame.pending⟩, frame.ks, previews, fun p => ?_, ?_⟩
  · rw [port, ports]
    unfold PortRecord.afterMillisecond
    rfl
  · intro units
    refine ⟨order, perm, link.trans ?_⟩
    have same : units = fun list p => (s.port p).millisecondUnits s.su.alert p list := by
      funext list p
      have notice : (s.untied State.millisecond).notice p = (s.port p).afterMillisecond.noticeFields s.su.alert := by
        rw [State.notice, port, ports, alert]
      dsimp only [units]
      rw [notice]
      cases s.port p with
      | active v home stream d n => match n with | 0 | 1 | _ + 2 => rfl
      | off | blanked => rfl
    rw [same]

end Sys2Proof.Machine
end

section
/-! A MEDIA unit at every port it matches (R21, R65, R71, R72, R77, R78). -/

namespace Sys2Proof.Machine

/-! ## The mark of a lookup -/

theorem holdsGroup_iff (x : Option KeyEntry) (g : Nat) : holdsGroup x g = true ↔ x.map (·.group) = some g := by
  cases x <;> simp [holdsGroup]

/-- R65: the way of set `i` that a lookup of a group marks. -/
def KeyStore.markIn (ks : KeyStore) (g : Nat) (i : Fin 32) : Option Way :=
  if setOf g ≠ i then none
  else if ks.sets[i].way0.map (·.group) = some g then some .way0
  else if ks.sets[i].way1.map (·.group) = some g then some .way1 else none

theorem KeyStore.mark_sets (ks : KeyStore) (g : Nat) (w : Way) (i : Fin 32) :
    (ks.mark g w).sets[i] = if i = setOf g then { ks.sets[i] with recent := w } else ks.sets[i] := by
  refine (getElem_set_fin ks.sets (setOf g) i _).trans ?_
  by_cases here : i = setOf g
  · subst here
    rfl
  · rw [if_neg here, if_neg here]

/-- R65: a lookup changes one recency mark at most. -/
theorem KeyStore.lookupMark_eq (ks : KeyStore) (g : Nat) : ks.lookupMark g = { ks with sets := (ks.lookupMark g).sets } ∧
    ∀ i : Fin 32, (ks.lookupMark g).sets[i] = { ks.sets[i] with recent := (ks.markIn g i).getD ks.sets[i].recent } := by
  have marked (w : Way) (marks : ∀ i, i = setOf g → ks.markIn g i = some w) :
      ∀ i : Fin 32, (ks.mark g w).sets[i] = { ks.sets[i] with recent := (ks.markIn g i).getD ks.sets[i].recent } := by
    intro i
    rw [KeyStore.mark_sets]
    by_cases here : i = setOf g
    · rw [if_pos here, marks i here, Option.getD_some]
    · rw [if_neg here, KeyStore.markIn, if_pos (fun same => here same.symm), Option.getD_none]
  have kept (misses : ks.markIn g (setOf g) = none) :
      ∀ i : Fin 32, ks.sets[i] = { ks.sets[i] with recent := (ks.markIn g i).getD ks.sets[i].recent } := by
    intro i
    by_cases here : i = setOf g
    · subst here
      rw [misses, Option.getD_none]
    · rw [KeyStore.markIn, if_pos (fun same => here same.symm), Option.getD_none]
  unfold KeyStore.lookupMark KeyStore.locate
  by_cases in0 : holdsGroup ks.sets[setOf g].way0 g = true
  · rw [if_pos in0]
    refine ⟨rfl, marked .way0 fun i here => ?_⟩
    subst here
    rw [KeyStore.markIn, if_neg (by simp), if_pos ((holdsGroup_iff _ _).mp in0)]
  · have out0 := mt (holdsGroup_iff _ _).mpr in0
    by_cases in1 : holdsGroup ks.sets[setOf g].way1 g = true
    · rw [if_neg in0, if_pos in1]
      refine ⟨rfl, marked .way1 fun i here => ?_⟩
      subst here
      rw [KeyStore.markIn, if_neg (by simp), if_neg out0, if_pos ((holdsGroup_iff _ _).mp in1)]
    · have misses : ks.markIn g (setOf g) = none := by
        rw [KeyStore.markIn, if_neg (by simp), if_neg out0, if_neg (mt (holdsGroup_iff _ _).mpr in1)]
      rw [if_neg in0, if_neg in1]
      split
      · next w found => split at found <;> cases found
      · exact ⟨rfl, kept misses⟩

/-! ## One copy -/

/-- R77, R78: the record of a port after its copy. -/
def State.copyRecord (s : State) (u : Unit96) (p : Port) : PortRecord → PortRecord
  | .active v home stream _ timer =>
    if (s.laneOutcome p u).isSome then .active v home stream .flowing 3000 else .active v home stream .noKey timer
  | r => r

/-- R77, R78, R94, R167: the list after the units of a copy that leaves the notice `n`. -/
def State.copyUnits (s : State) (u : Unit96) (n : NoticeFields) (list : List LinkUnit) (p : Port) : List LinkUnit :=
  let noticed := if n = s.notice p then list else list ++ [.notice p n]
  match s.laneOutcome p u with
  | some body => if noticed.length < 64 then noticed ++ [.programme p u.stream u.count body] else noticed
  | none => noticed

/-- R65: the key store after a copy's lookup. -/
def State.copyMark (s : State) (u : Unit96) (p : Port) : KeyStore := (s.laneMark p u).ks

theorem State.laneMark_eq (s : State) (p : Port) (u : Unit96) : s.laneMark p u = { s with ks := s.copyMark u p } := by
  unfold State.copyMark State.laneMark
  split <;> rfl

/-- A port's record after a MEDIA unit's copy reaches it. -/
def State.copied (s : State) (u : Unit96) (p : Port) : PortRecord := s.copyRecord u p (s.port p)

theorem State.treatCopy_eq {s : State} {p : Port} {u : Unit96} {v : View} {home : Channel} {stream : Option Nat} {d : Delivery}
    {n : Nat} (port : s.port p = .active v home stream d n) : s.treatCopy p u = { s.setPort p (s.copied u p) with
      ks := s.copyMark u p
      rl := { s.rl with transmit := s.copyUnits u ((s.copied u p).noticeFields s.su.alert) s.rl.transmit p } } := by
  unfold State.treatCopy
  rw [s.laneMark_eq]
  dsimp only
  have here : ({ s with ks := s.copyMark u p } : State).port p = .active v home stream d n := port
  have noticed : ({ s with ks := s.copyMark u p } : State).notice p = s.notice p := rfl
  rw [State.copied, port, State.copyRecord, State.copyUnits]
  cases s.laneOutcome p u with
  | none =>
    dsimp only
    rw [State.copyMissed, here]
    dsimp only
    rw [State.notifyChange_eq, State.setPort_notice, noticed]
    simp only [Option.isSome_none, Bool.false_eq_true, if_false]
    split <;> simp [State.setPort]
  | some body =>
    dsimp only
    rw [State.copyCleared, here]
    dsimp only
    rw [State.notifyChange_eq, State.setPort_notice, State.sendData_eq, noticed]
    simp only [Option.isSome_some, if_true]
    split <;> split <;> simp_all [State.setPort, signalMs]

end Sys2Proof.Machine
end

section
/-! The statement about a MEDIA unit. -/

namespace Sys2Proof.Machine

theorem State.treatCopy_inactive {s : State} {p : Port} {u : Unit96} (other : ∀ v home stream d n, s.port p ≠ .active v home stream d n) :
    s.treatCopy p u = { s with ks := s.copyMark u p } := by
  unfold State.treatCopy
  rw [s.laneMark_eq]
  dsimp only
  have none (t : State) (same : t.port p = s.port p) : (∀ b, t.copyCleared p u b = t) ∧ t.copyMissed p = t := by
    unfold State.copyCleared State.copyMissed
    rw [same]
    cases old : s.port p with
    | active v home stream d n => exact absurd old (other v home stream d n)
    | off | blanked => exact ⟨fun _ => rfl, rfl⟩
  obtain ⟨cleared, missed⟩ := none { s with ks := s.copyMark u p } rfl
  split
  · exact cleared _
  · exact missed

section
variable (s : State) (p : Port) (u : Unit96)

theorem State.treatCopy_cases : (∃ v home stream d n, s.port p = .active v home stream d n) ∨
    ((∀ v home stream d n, s.port p ≠ .active v home stream d n) ∧ s.copied u p = s.port p) := by
  unfold State.copied State.copyRecord
  cases s.port p with
  | active v home stream d n => exact .inl ⟨v, home, stream, d, n, rfl⟩
  | off | blanked => exact .inr ⟨by simp, rfl⟩

theorem State.treatCopy_port (q : Port) : (s.treatCopy p u).port q = if q = p then s.copied u p else s.port q := by
  obtain ⟨v, home, stream, d, n, port⟩ | ⟨other, same⟩ := s.treatCopy_cases p u
  · rw [State.treatCopy_eq port]
    exact s.setPort_port p _ q
  · rw [State.treatCopy_inactive other, same]
    show s.port q = _
    split
    · next here => rw [here]
    · rfl

theorem State.treatCopy_ks : (s.treatCopy p u).ks = s.copyMark u p := by
  obtain ⟨v, home, stream, d, n, port⟩ | ⟨other, _⟩ := s.treatCopy_cases p u
  · rw [State.treatCopy_eq port]
  · rw [State.treatCopy_inactive other]

theorem State.treatCopy_previews : (s.treatCopy p u).pc.previews = s.pc.previews := by
  obtain ⟨v, home, stream, d, n, port⟩ | ⟨other, _⟩ := s.treatCopy_cases p u
  · rw [State.treatCopy_eq port]
    rfl
  · rw [State.treatCopy_inactive other]

theorem State.treatCopy_su : (s.treatCopy p u).su = s.su := by
  obtain ⟨v, home, stream, d, n, port⟩ | ⟨other, _⟩ := s.treatCopy_cases p u
  · rw [State.treatCopy_eq port]
    rfl
  · rw [State.treatCopy_inactive other]

end

/-! ## What a copy reads stays through the other copies -/

/-- What a lane reads: the places of KS, the groups in use and the alert. -/
structure SameLane (s t : State) : Prop where
  quiet : Quiet s t
  su    : t.su = s.su

section
variable {s t : State} (h : SameLane s t)
include h

theorem SameLane.step (p : Port) (u : Unit96) : SameLane s (t.treatCopy p u) :=
  ⟨h.quiet.trans (t.treatCopy_quiet p u), (t.treatCopy_su p u).trans h.su⟩

theorem SameLane.laneOutcome (p : Port) (u : Unit96) : t.laneOutcome p u = s.laneOutcome p u := by
  have word (g : Nat) (ph : KeyPhase) : t.ks.lookupWord g ph = s.ks.lookupWord g ph := by
    obtain ⟨way0, way1⟩ := h.quiet.ways (setOf g)
    have place : t.ks.at g = s.ks.at g := by
      funext place
      cases place with
      | slot => exact h.quiet.slot
      | way w => cases w with
        | way0 => exact way0
        | way1 => exact way1
    rw [KeyStore.lookupWord, KeyStore.lookupWord, KeyStore.locate, KeyStore.locate, place, way0, way1, h.quiet.slot]
  simp only [State.laneOutcome, h.quiet.serviceGroup, word]

theorem SameLane.copyRecord (u : Unit96) (p : Port) (r : PortRecord) : t.copyRecord u p r = s.copyRecord u p r := by
  cases r with
  | active v home stream d n => simp only [State.copyRecord, h.laneOutcome]
  | off | blanked => rfl

theorem SameLane.copyUnits {p : Port} (same : t.port p = s.port p) (u : Unit96) (n : NoticeFields) (list : List LinkUnit) :
    t.copyUnits u n list p = s.copyUnits u n list p := by
  have notice : t.notice p = s.notice p := by rw [State.notice, State.notice, same, h.su]
  simp only [State.copyUnits, h.laneOutcome, notice]

end

/-- R65: the way of set `i` that the copy at a port marks. -/
def State.copyMarksIn (s : State) (u : Unit96) (p : Port) (i : Fin 32) : Option Way :=
  match u.phase, s.serviceGroup p with
  | .scrambled _, some g => s.ks.markIn g i
  | _, _ => none

theorem State.copyMark_eq (s : State) (u : Unit96) (p : Port) : s.copyMark u p = { s.ks with sets := (s.copyMark u p).sets } ∧
    ∀ i : Fin 32, (s.copyMark u p).sets[i] =
      { s.ks.sets[i] with recent := (s.copyMarksIn u p i).getD s.ks.sets[i].recent } := by
  unfold State.copyMark State.laneMark State.copyMarksIn
  cases u.phase with
  | clear | invalid => exact ⟨rfl, fun _ => rfl⟩
  | scrambled ph =>
    cases s.serviceGroup p with
    | none => exact ⟨rfl, fun _ => rfl⟩
    | some g => exact s.ks.lookupMark_eq g

theorem SameLane.copyMarksIn {s t : State} (h : SameLane s t) (u : Unit96) (p : Port) (i : Fin 32) :
    t.copyMarksIn u p i = s.copyMarksIn u p i := by
  obtain ⟨way0, way1⟩ := h.quiet.ways i
  simp only [State.copyMarksIn, h.quiet.serviceGroup, KeyStore.markIn, way0, way1]

/-- R54, R65: the recency marks after the copies at several ports. -/
theorem copies_ks {s : State} {u : Unit96} : ∀ (ps : List Port) (t : State), SameLane s t →
    (ps.foldl (fun t p => t.treatCopy p u) t).ks = { t.ks with sets := (ps.foldl (fun t p => t.treatCopy p u) t).ks.sets } ∧
      ∀ i : Fin 32, (ps.foldl (fun t p => t.treatCopy p u) t).ks.sets[i] = { t.ks.sets[i] with
        recent := ps.foldl (fun w p => (s.copyMarksIn u p i).getD w) t.ks.sets[i].recent }
  | [], t, _ => ⟨rfl, fun _ => rfl⟩
  | p :: ps, t, h => by
    obtain ⟨all, sets⟩ := copies_ks ps (t.treatCopy p u) (h.step p u)
    obtain ⟨one, set⟩ := t.copyMark_eq u p
    rw [State.treatCopy_ks] at all
    simp only [State.treatCopy_ks, set, h.copyMarksIn] at sets
    refine ⟨all.trans ?_, sets⟩
    rw [one]
    rfl

/-! ## The copies of one unit -/

/-- The ports that a unit reaches, in the order of their copies. -/
def State.lanes (s : State) (u : Unit96) : List Port := s.arranged fun p => s.matches p u

/-- The list after the units of a port's copy. -/
def State.laneUnits (s : State) (u : Unit96) (list : List LinkUnit) (p : Port) : List LinkUnit :=
  s.copyUnits u ((s.copied u p).noticeFields s.su.alert) list p

section
variable (s : State) {u : Unit96} (live : u.stream ≠ 4095)
include live

theorem State.deliver_eq : s.deliver u = (s.lanes u).foldl (fun t p => t.treatCopy p u)
    (s.afterArranging fun p => s.matches p u) := if_neg live

theorem State.deliver_port (q : Port) :
    (s.deliver u).port q = if s.matches q u = true then s.copied u q else s.port q := by
  have begins : SameLane s (s.afterArranging fun p => s.matches p u) := ⟨s.choices_quiet _, rfl⟩
  have port := foldl_port (f := fun t p => t.treatCopy p u) (g := s.copyRecord u) (P := SameLane s)
    (fun t p h => h.step p u) (fun t p q h => by rw [State.treatCopy_port, State.copied, h.copyRecord])
    (s.lanes u) _ begins (s.arranged_nodup _) q
  rw [s.deliver_eq live, port]
  exact if_congr (s.mem_arranged _ q) rfl rfl

theorem State.deliver_previews : (s.deliver u).pc.previews = s.pc.previews := by
  rw [s.deliver_eq live]
  exact foldl_previews (fun t p => t.treatCopy_previews p u) _ _

theorem State.deliver_link : (s.deliver u).rl =
    { s.rl with transmit := (s.lanes u).foldl (s.laneUnits u) s.rl.transmit } := by
  have begins : SameLane s (s.afterArranging fun p => s.matches p u) := ⟨s.choices_quiet _, rfl⟩
  have link := foldl_link (f := fun t p => t.treatCopy p u) (P := SameLane s)
    (Q := fun p r => r = s.port p ∧ s.matches p u = true)
    (units := s.laneUnits u)
    (fun t p h => h.step p u) (fun t p q apart => (t.treatCopy_port p u q).trans (if_neg apart))
    (fun t p h old => by
      obtain ⟨same, meant⟩ := old
      obtain ⟨v, home, d, n, port⟩ := (s.matches_iff p u).mp meant
      rw [State.treatCopy_eq (same.trans port), State.copied, h.copyRecord, h.copyUnits same, same, h.su]
      rfl)
    (s.lanes u) _ begins (s.arranged_nodup _) fun p lane => ⟨rfl, (s.mem_arranged _ p).mp lane⟩
  rw [s.deliver_eq live]
  exact link

theorem State.deliver_outside : SameOutsidePorts s (s.deliver u) := by
  have copy (t : State) (p : Port) : SameOutsidePorts t (t.treatCopy p u) := by
    obtain ⟨v, home, stream, d, n, port⟩ | ⟨other, _⟩ := t.treatCopy_cases p u
    · rw [State.treatCopy_eq port]
      exact ⟨rfl, rfl, rfl, rfl, rfl, rfl, rfl, rfl, rfl, rfl⟩
    · rw [State.treatCopy_inactive other]
      exact ⟨rfl, rfl, rfl, rfl, rfl, rfl, rfl, rfl, rfl, rfl⟩
  rw [s.deliver_eq live]
  refine List.foldlRecOn (motive := fun t : State => SameOutsidePorts s t) _ _
    ⟨rfl, rfl, rfl, rfl, rfl, rfl, rfl, rfl, rfl, rfl⟩ fun t ih p _ => ?_
  obtain ⟨su, fi, sf, md, tm, lu, pu, bq, room, pending⟩ := copy t p
  obtain ⟨su', fi', sf', md', tm', lu', pu', bq', room', pending'⟩ := ih
  exact ⟨su.trans su', fi.trans fi', sf.trans sf', md.trans md', tm.trans tm', lu.trans lu', pu.trans pu', bq.trans bq',
    room.trans room', pending.trans pending'⟩

theorem State.deliver_grows : ∃ l, (s.deliver u).rl.transmit = s.rl.transmit ++ l := by
  have one (list : List LinkUnit) (p : Port) : ∃ l, s.laneUnits u list p = list ++ l := by
    unfold State.laneUnits State.copyUnits
    have noticed (test : Prop) [Decidable test] (x : LinkUnit) : ∃ a, (if test then list else list ++ [x]) = list ++ a := by
      split
      · exact ⟨[], (List.append_nil _).symm⟩
      · exact ⟨[x], rfl⟩
    obtain ⟨a, same⟩ := noticed ((s.copied u p).noticeFields s.su.alert = s.notice p)
      (.notice p ((s.copied u p).noticeFields s.su.alert))
    dsimp only
    rw [same]
    split
    · split
      · exact ⟨_, List.append_assoc _ _ _⟩
      · exact ⟨a, rfl⟩
    · exact ⟨a, rfl⟩
  rw [s.deliver_link live]
  refine List.foldlRecOn (motive := fun list : List LinkUnit => ∃ l, list = s.rl.transmit ++ l) _ _
    ⟨[], (List.append_nil _).symm⟩ fun list grown p _ => ?_
  obtain ⟨l, rfl⟩ := grown
  obtain ⟨more, same⟩ := one (s.rl.transmit ++ l) p
  exact ⟨l ++ more, same.trans (List.append_assoc _ _ _)⟩

theorem State.deliver_ks : (s.deliver u).ks = { s.ks with sets := (s.deliver u).ks.sets } ∧
    ∀ i : Fin 32, (s.deliver u).ks.sets[i] = { s.ks.sets[i] with
      recent := (s.lanes u).foldl (fun w p => (s.copyMarksIn u p i).getD w) s.ks.sets[i].recent } := by
  rw [s.deliver_eq live]
  exact copies_ks (s := s) _ _ ⟨s.choices_quiet _, rfl⟩

end

/-- The ports that a unit reaches, and then the others. -/
def State.laneOrder (s : State) (u : Unit96) : List Port := s.lanes u ++ allPorts.filter fun p => !s.matches p u

theorem State.laneOrder_perm (s : State) (u : Unit96) : (s.laneOrder u).Perm allPorts :=
  ((s.arranged_perm _).append_right _).trans (List.filter_append_perm _ _)

/-- A fold over the ports to which the others add nothing. -/
theorem State.foldl_laneOrder {α : Type} (s : State) (u : Unit96) {f g : α → Port → α}
    (lane : ∀ a p, s.matches p u = true → f a p = g a p) (other : ∀ a p, s.matches p u = false → f a p = a) (a : α) :
    (s.laneOrder u).foldl f a = (s.lanes u).foldl g a := by
  have silent : ∀ (ps : List Port) (a : α), (∀ p ∈ ps, s.matches p u = false) → ps.foldl f a = a := by
    intro ps
    induction ps with
    | nil => exact fun _ _ => rfl
    | cons p ps ih =>
      intro a all
      rw [List.foldl_cons, other a p (all p List.mem_cons_self)]
      exact ih a fun q member => all q (List.mem_cons_of_mem _ member)
  rw [State.laneOrder, List.foldl_append, silent _ _ fun p member => by simpa using (List.mem_filter.mp member).2]
  exact List.foldl_ext _ _ _ fun a p member => lane a p ((s.mem_arranged _ p).mp member)

/-- Settles O7: the ports by `State.deliver_port`, the list by `State.deliver_link`, KS by `State.deliver_ks`; the ports that
the unit does not reach stand at the end of the order (`State.foldl_laneOrder`). -/
theorem mediaUnitPerPort : Obligations.MediaUnitPerPort := by
  intro u s kind phase live meant cleared foundIn
  have run : exec (.mediaUnit u) s = .next (s.untied fun t => t.deliver u) := asRow_spelled (spellsMedia_of kind phase) _
  have outcome (p : Port) : cleared p = s.laneOutcome p u := by
    have valid : u.phase ≠ .invalid := fun invalid => phase ((phase_invalid_iff u).mp invalid)
    dsimp only [cleared, State.laneOutcome]
    cases phased : u.phase with
    | clear => rfl
    | invalid => exact absurd phased valid
    | scrambled ph => cases s.serviceGroup p <;> rfl
  have marks (p : Port) (i : Fin 32) : foundIn p i = if s.matches p u = true then s.copyMarksIn u p i else none := by
    dsimp only [foundIn, State.copyMarksIn]
    cases u.phase with
    | clear | invalid => exact (ite_self _).symm
    | scrambled ph =>
      cases s.serviceGroup p with
      | none => exact (ite_self _).symm
      | some g =>
        show (if ¬ s.matches p u = true ∨ Fin.ofNat 32 g ≠ i then _ else _) = if s.matches p u = true then s.ks.markIn g i else none
        by_cases lane : s.matches p u = true
        · rw [if_pos lane]
          exact if_congr (or_iff_right (not_not_intro lane)) rfl rfl
        · rw [if_neg lane]
          exact if_pos (.inl lane)
  have ports := s.deliver_port live
  obtain ⟨su, fi, sf, md, tm, lu, pu, bq, room, pending⟩ := s.deliver_outside live
  have previews := s.deliver_previews live
  have link := s.deliver_link live
  obtain ⟨ks, sets⟩ := s.deliver_ks live
  refine ⟨_, _, s.laneOrder u, run, State.untied_fellIn (s.deliver_grows live),
    ⟨su, fi, sf, md, tm, lu, pu, bq, room, pending⟩, previews, s.laneOrder_perm u, fun p => ?_, ks, fun i => ?_, ?_⟩
  · show (s.deliver u).port p = _
    rw [ports, State.copied, outcome]
    cases s.port p with
    | active v home stream d n => rfl
    | off | blanked => exact ite_self _
  · refine (sets i).trans ?_
    rw [s.foldl_laneOrder u (g := fun w p => (s.copyMarksIn u p i).getD w) (fun w p lane => by rw [marks, if_pos lane])
      fun w p other => by rw [marks, if_neg (by rw [other]; decide), Option.getD_none]]
  · intro units
    have notice (p : Port) : (s.untied fun t => t.deliver u).notice p =
        if s.matches p u = true then (s.copied u p).noticeFields s.su.alert else s.notice p := by
      show ((s.deliver u).port p).noticeFields (s.deliver u).su.alert = _
      rw [ports, su]
      split <;> rfl
    refine link.trans ?_
    rw [s.foldl_laneOrder u (g := s.laneUnits u) (fun list p lane => ?_) fun list p other => ?_]
    · have here : meant p = true := lane
      have after := (notice p).trans (if_pos lane)
      dsimp only [units]
      rw [after, outcome, State.laneUnits, State.copyUnits]
      cases s.laneOutcome p u with
      | none => rfl
      | some body => exact if_congr (and_iff_right here) rfl rfl
    · have apart : ¬ meant p = true := by rw [show meant p = false from other]; decide
      have after := (notice p).trans (if_neg apart)
      dsimp only [units]
      rw [after, if_pos rfl]
      cases cleared p with
      | none => rfl
      | some body => exact if_neg fun both => apart both.1

end Sys2Proof.Machine
end

section
/-! A KEY_LOAD, case by case (R58 to R62). -/

namespace Sys2Proof.Machine

/-! ## Where a group is held -/

theorem holdsGroup_some {e : KeyEntry} {g : Nat} (same : e.group = g) : holdsGroup (some e) g = true :=
  (holdsGroup_iff _ g).mpr (congrArg some same)

theorem holdsGroup_absent {place : Option KeyEntry} {g : Nat} (absent : ∀ e, place = some e → e.group ≠ g) :
    holdsGroup place g = false := by
  cases place with
  | none => rfl
  | some e => exact beq_eq_false_iff_ne.mpr (absent e rfl)

section
variable {ks : KeyStore} {g : Nat}

theorem KeyStore.locate_way0 {e : KeyEntry} (held : ks.sets[setOf g].way0 = some e) (same : e.group = g) :
    ks.locate g = some (.way .way0) := by
  rw [KeyStore.locate, held, holdsGroup_some same]
  rfl

theorem KeyStore.locate_way1 {e : KeyEntry} (absent : ∀ e, ks.sets[setOf g].way0 = some e → e.group ≠ g)
    (held : ks.sets[setOf g].way1 = some e) (same : e.group = g) : ks.locate g = some (.way .way1) := by
  rw [KeyStore.locate, holdsGroup_absent absent, held, holdsGroup_some same]
  rfl

theorem KeyStore.locate_slot {e : KeyEntry} (absent0 : ∀ e, ks.sets[setOf g].way0 = some e → e.group ≠ g)
    (absent1 : ∀ e, ks.sets[setOf g].way1 = some e → e.group ≠ g) (held : ks.slot = some e) (same : e.group = g) :
    ks.locate g = some .slot := by
  rw [KeyStore.locate, holdsGroup_absent absent0, holdsGroup_absent absent1, held, holdsGroup_some same]
  rfl

theorem KeyStore.locate_absent (absent0 : ∀ e, ks.sets[setOf g].way0 = some e → e.group ≠ g)
    (absent1 : ∀ e, ks.sets[setOf g].way1 = some e → e.group ≠ g) (absent2 : ∀ e, ks.slot = some e → e.group ≠ g) :
    ks.locate g = none := by
  rw [KeyStore.locate, holdsGroup_absent absent0, holdsGroup_absent absent1, holdsGroup_absent absent2]
  rfl

end

/-! ## Which way is given up -/

theorem KeySet.freeWay_full {st : KeySet} {e0 e1 : KeyEntry} (way0 : st.way0 = some e0) (way1 : st.way1 = some e1) :
    st.freeWay = none := by
  rw [KeySet.freeWay, way0, way1]
  rfl

section
variable {s : State} {st : KeySet} {e0 e1 : KeyEntry} (way0 : st.way0 = some e0) (way1 : st.way1 = some e1)
include way0 way1

theorem State.victim_eq : s.victim st = match s.pinned e0.group, s.pinned e1.group with
    | true, true => none
    | true, false => some .way1
    | false, true => some .way0
    | false, false => some st.lessRecent := by
  rw [State.victim, way0, way1]
  rfl

theorem State.victim_way0 (idle : s.pinned e0.group = false) (given : s.pinned e1.group = true ∨ st.recent = .way1) :
    s.victim st = some .way0 := by
  rw [s.victim_eq way0 way1, idle]
  obtain used | recent := given
  · rw [used]
  · rw [KeySet.lessRecent, recent]
    cases s.pinned e1.group <;> rfl

theorem State.victim_way1 (idle : s.pinned e1.group = false) (given : s.pinned e0.group = true ∨ st.recent = .way0) :
    s.victim st = some .way1 := by
  rw [s.victim_eq way0 way1, idle]
  obtain used | recent := given
  · rw [used]
  · rw [KeySet.lessRecent, recent]
    cases s.pinned e0.group <;> rfl

theorem State.victim_pinned (used0 : s.pinned e0.group = true) (used1 : s.pinned e1.group = true) : s.victim st = none := by
  rw [s.victim_eq way0 way1, used0, used1]

end

/-! ## Placing a key -/

section
variable {s : State} {g : Nat} (ph : KeyPhase) (k : PhaseKey)

theorem KeyEntry.fresh_group : (KeyEntry.fresh g ph k).group = g := by cases ph <;> rfl

/-- R54, R60: the entry of a new group in a way of its set, which it marks. -/
theorem KeyStore.placeFresh (ks : KeyStore) (w : Way) : ks.placeInWay (KeyEntry.fresh g ph k) w =
    { ks with sets := ks.sets.set (setOf g) { ks.sets[setOf g].setWay (some (KeyEntry.fresh g ph k)) w with recent := w } } := by
  simp [KeyStore.placeInWay, KeyStore.put, KeyStore.mark, KeyStore.setSet, KeyEntry.fresh_group]

theorem State.placeKey_held {place : Place} (held : s.ks.locate g = some place) :
    s.placeKey g ph k = s.ks.put g ((s.ks.at g place).map (·.setPhase (some k) ph)) place := by
  rw [State.placeKey, held]

variable (absent : s.ks.locate g = none)
include absent

theorem State.placeKey_free {w : Way} (free : s.ks.sets[setOf g].freeWay = some w) :
    s.placeKey g ph k = s.ks.placeInWay (KeyEntry.fresh g ph k) w := by
  rw [State.placeKey, absent, free]

theorem State.placeKey_victim {w : Way} (full : s.ks.sets[setOf g].freeWay = none)
    (victim : s.victim s.ks.sets[setOf g] = some w) :
    s.placeKey g ph k = (s.ks.placeInWay (KeyEntry.fresh g ph k) w).countReplaced := by
  rw [State.placeKey, absent, full, victim]

theorem State.placeKey_slot (full : s.ks.sets[setOf g].freeWay = none) (pinned : s.victim s.ks.sets[setOf g] = none) :
    s.placeKey g ph k = { (if s.ks.slot.isSome then s.ks.countDisplaced else s.ks) with
      slot := some (KeyEntry.fresh g ph k) } := by
  rw [State.placeKey, absent, full, pinned]

end

/-- R58, R173: a KEY_LOAD whose fields are in range reaches KS. -/
theorem exec_keyLoad {u : Unit96} {s : State} {ph : KeyPhase} (spelled : u.spellsMgmt 2 = true) (taken : s.Takes u)
    (phase : u.body[5].toNat = match ph with | .a => 1 | .b => 2) (range : u.word16 3 ≤ 1022) :
    exec (.keyLoad u) s = .next (s.loadKey (u.word16 3) ph { word := controlWord u, expiry := keyExpiry u } u) := by
  have field : keyPhaseField u = some ph := by
    have byte : (u.byte 5).toNat = u.body[5].toNat := congrArg BitVec.toNat (u.byte_eq_getElem (by decide))
    unfold keyPhaseField
    rw [byte, phase]
    cases ph <;> rfl
  have fields : keyLoadFieldsOk u = true := by simp [keyLoadFieldsOk, keyGroupField, range, field]
  have run : exec (.keyLoad u) s = .next (s.loadKey (keyGroupField u) ((keyPhaseField u).getD .a) _ u) :=
    managed spelled taken fields
  rw [run, field]
  rfl

/-- Settles O21: the cases of `State.placeKey` by where the group is held and which way may be given up. -/
theorem keyLoadOutcomes : Obligations.KeyLoadOutcomes := by
  intro u s ph spelled taken phase range g i here key fresh renewed answers withSet placed absent inUse
  have run := exec_keyLoad spelled taken phase range
  have index : i = setOf g := rfl
  have used (e : KeyEntry) : inUse e ↔ s.pinned e.group = true := (s.pinned_iff e.group).symm
  have idle (e : KeyEntry) (h : ¬ inUse e) : s.pinned e.group = false := by simpa [used] using h
  have isFresh : KeyEntry.fresh g ph key = fresh := by cases ph <;> rfl
  have isRenewed (e : KeyEntry) : e.setPhase (some key) ph = renewed e := by cases ph <;> rfl
  have stored (w : Way) (ks : KeyStore) (counted : ks = s.ks.placeInWay (KeyEntry.fresh g ph key) w) :
      ks = withSet (placed w here) := by
    rw [counted, KeyStore.placeFresh, isFresh]
    cases w <;> rfl
  refine ⟨fun late => ?_, fun early => ?_⟩
  · rw [run]
    exact congrArg Host.Outcome.next ((if_pos late).trans (State.refuse_eq_refusedMd ..))
  have loads {ks : KeyStore} (placed : s.placeKey g ph key = ks) : answers ks := by
    show exec (.keyLoad u) s = _
    have onTime : ¬ (0 < key.expiry ∧ key.expiry ≤ s.su.clock) := by omega
    rw [run, ← placed]
    exact congrArg Host.Outcome.next (if_neg onTime)
  refine ⟨fun e way0 same => loads ?_, fun e absent0 way1 same => loads ?_, fun e absent0 absent1 slot same => loads ?_,
    fun absent0 absent1 absent2 => ?_⟩
  · rw [State.placeKey_held ph key (KeyStore.locate_way0 way0 same), ← isRenewed]
    have held : s.ks.at g (.way .way0) = some e := way0
    rw [held]
    rfl
  · rw [State.placeKey_held ph key (KeyStore.locate_way1 absent0 way1 same), ← isRenewed]
    have held : s.ks.at g (.way .way1) = some e := way1
    rw [held]
    rfl
  · rw [State.placeKey_held ph key (KeyStore.locate_slot absent0 absent1 slot same), ← isRenewed]
    have held : s.ks.at g .slot = some e := slot
    rw [held]
    rfl
  · have nowhere : s.ks.locate g = none := KeyStore.locate_absent absent0 absent1 absent2
    refine ⟨fun free => loads ?_, fun e way0 free => loads ?_, fun e0 e1 way0 way1 => ⟨fun spare given => loads ?_,
      fun spare given => loads ?_, fun used0 used1 empty => loads ?_, fun used0 used1 held => loads ?_⟩⟩
    · exact (State.placeKey_free ph key nowhere (if_pos (Option.isNone_iff_eq_none.mpr free))).trans (stored .way0 _ rfl)
    · have first : ¬ here.way0.isNone = true := by rw [way0]; exact Bool.false_ne_true
      exact (State.placeKey_free ph key nowhere ((if_neg first).trans (if_pos (Option.isNone_iff_eq_none.mpr free)))).trans
        (stored .way1 _ rfl)
    · rw [State.placeKey_victim ph key nowhere (KeySet.freeWay_full way0 way1)
        (State.victim_way0 way0 way1 (idle e0 spare) (given.imp_left (used e1).mp)), stored .way0 _ rfl]
      rfl
    · rw [State.placeKey_victim ph key nowhere (KeySet.freeWay_full way0 way1)
        (State.victim_way1 way0 way1 (idle e1 spare) (given.imp_left (used e0).mp)), stored .way1 _ rfl]
      rfl
    · rw [State.placeKey_slot ph key nowhere (KeySet.freeWay_full way0 way1)
        (State.victim_pinned way0 way1 ((used e0).mp used0) ((used e1).mp used1)), empty, isFresh]
      rfl
    · rw [State.placeKey_slot ph key nowhere (KeySet.freeWay_full way0 way1)
        (State.victim_pinned way0 way1 ((used e0).mp used0) ((used e1).mp used1)),
        if_pos (Option.isSome_iff_ne_none.mpr held), isFresh]
      rfl

end Sys2Proof.Machine
end

section
/-! What a purge, a phase's expiry and a migration leave of the keys (R57, R63, R65, R67, R68). -/

namespace Sys2Proof.Machine

/-! ## The entry of a group -/

/-- R53, R65: the entry of a group, wherever it is held. -/
def KeyStore.held (ks : KeyStore) (g : Nat) : Option KeyEntry := (ks.locate g).bind (ks.at g)

theorem KeyStore.lookupWord_eq (ks : KeyStore) (g : Nat) (ph : KeyPhase) :
    ks.lookupWord g ph = (ks.held g).bind fun e => (e.phase ph).map (·.word) := rfl

theorem KeyStore.held_none {ks : KeyStore} {g : Nat} (nowhere : ks.locate g = none) : ks.held g = none := by
  rw [KeyStore.held, nowhere]
  rfl

theorem KeyStore.at_congr (ks : KeyStore) {g g' : Nat} (near : setOf g' = setOf g) (w : Way) :
    ks.at g' (.way w) = ks.at g (.way w) := by simp only [KeyStore.at, near]

section
variable {ks : KeyStore} (law : ks.StoreLaw)
include law

theorem KeyStore.StoreLaw.held_iff (g : Nat) (e : KeyEntry) :
    ks.held g = some e ↔ e.group = g ∧ ∃ place, ks.at g place = some e := by
  constructor
  · intro holds
    obtain ⟨place, found, there⟩ := Option.bind_eq_some_iff.mp holds
    obtain ⟨x, here, group⟩ := KeyStore.locate_some found
    obtain rfl := Option.some.inj (here.symm.trans there)
    exact ⟨group, place, there⟩
  · rintro ⟨group, place, there⟩
    cases found : ks.locate g with
    | none => exact absurd group (KeyStore.locate_none found place there)
    | some place' =>
      have same : place = place' := by
        by_contra apart
        exact law.located found place e apart there group
      rw [KeyStore.held, found, ← same]
      exact there

/-- R53: the entry of a located group replaced is that group's alone. -/
theorem KeyStore.StoreLaw.held_put {g : Nat} {place : Place} {e : Option KeyEntry} (found : ks.locate g = some place)
    (entry : ∀ x, e = some x → x.lawful = true ∧ x.group = g) (g' : Nat) :
    (ks.put g e place).held g' = if g' = g then e else ks.held g' := by
  have law' := law.put place entry (law.located found)
  refine Option.ext fun x => ?_
  rw [law'.held_iff]
  simp only [KeyStore.at_put]
  by_cases here : g' = g
  · subst here
    rw [if_pos rfl]
    constructor
    · rintro ⟨group, place', there⟩
      split at there
      · exact there
      · next apart =>
        have elsewhere : place' ≠ place := fun same => apart ⟨same, .inr rfl⟩
        exact absurd group (law.located found place' x elsewhere there)
    · rintro rfl
      exact ⟨(entry x rfl).2, place, if_pos ⟨rfl, .inr rfl⟩⟩
  · rw [if_neg here, law.held_iff]
    obtain ⟨old, stood, group⟩ := KeyStore.locate_some found
    refine and_congr_right fun own => exists_congr fun place' => ?_
    split
    · next same =>
      obtain ⟨rfl, near⟩ := same
      have atSame : ks.at g' place' = some old := by
        cases place' with
        | slot => exact stood
        | way w => rw [← stood, ks.at_congr (near.resolve_left (by simp))]
      rw [atSame]
      refine iff_of_false (fun new => here ?_) fun same => here ?_
      · exact own.symm.trans (entry x new).2
      · exact own.symm.trans ((congrArg KeyEntry.group (Option.some.inj same)).symm.trans group)
    · rfl

end

/-! ## A migration moves no key (R63) -/

/-- What SlotLaw leaves of a set's ways at an event that frees a way or changes an entry but not its group: the slot's entry
finds a free way, or both ways still in use. -/
def State.SlotFits (s : State) : Prop :=
  ∀ e, s.ks.slot = some e → s.ks.sets[setOf e.group].freeWay ≠ none ∨ s.victim s.ks.sets[setOf e.group] = none

theorem KeySet.freeWay_some {st : KeySet} {w : Way} (free : st.freeWay = some w) : st.way w = none := by
  unfold KeySet.freeWay at free
  split_ifs at free with h0 h1 <;> obtain rfl := Option.some.inj free
  · exact Option.isNone_iff_eq_none.mp h0
  · exact Option.isNone_iff_eq_none.mp h1

theorem KeySet.freeWay_ne_none {st : KeySet} (w : Way) (empty : st.way w = none) : st.freeWay ≠ none := by
  unfold KeySet.freeWay
  cases w with
  | way0 =>
    have first : st.way0.isNone = true := Option.isNone_iff_eq_none.mpr empty
    rw [if_pos first]
    simp
  | way1 =>
    split_ifs with first second
    · simp
    · simp
    · exact absurd (Option.isNone_iff_eq_none.mpr empty) second

/-- R63: what is where after the slot's entry moved into a free way. -/
theorem KeyStore.at_moved {ks : KeyStore} {e : KeyEntry} (w : Way) (g : Nat) (place : Place) :
    ({ ks.placeInWay e w with slot := none } : KeyStore).at g place =
      if place = .slot then none else if place = .way w ∧ setOf g = setOf e.group then some e else ks.at g place := by
  have emptied : ({ ks.placeInWay e w with slot := none } : KeyStore) = (ks.placeInWay e w).put 0 none .slot := rfl
  rw [emptied, KeyStore.at_put, KeyStore.placeInWay, KeyStore.at_mark, KeyStore.at_put]
  cases place <;> simp

/-- R63, R64: while the slot fits, a migration leaves every key as a lookup finds it. -/
theorem State.migrate_held {s : State} (law : s.ks.StoreLaw) (fits : s.SlotFits) (g : Nat) :
    s.migrate.ks.held g = s.ks.held g := by
  have law' := State.migrate_storeLaw law
  cases slot : s.ks.slot with
  | none => rw [State.migrate, slot]
  | some e =>
    cases free : s.ks.sets[setOf e.group].freeWay with
    | none =>
      have pinned := (fits e slot).resolve_left (not_not_intro free)
      have stays : s.migrate = s := by
        unfold State.migrate
        rw [slot]
        dsimp only
        rw [free, pinned]
      rw [stays]
    | some w =>
      have moves : s.migrate.ks = { s.ks.placeInWay e w with slot := none } := by
        unfold State.migrate
        rw [slot]
        dsimp only
        rw [free]
      have empty := KeySet.freeWay_some free
      refine Option.ext fun x => ?_
      rw [law'.held_iff, law.held_iff, moves]
      simp only [KeyStore.at_moved]
      refine and_congr_right fun own => ⟨?_, ?_⟩
      · rintro ⟨place, there⟩
        split_ifs at there with atSlot here
        · obtain rfl := Option.some.inj there
          exact ⟨.slot, slot⟩
        · exact ⟨place, there⟩
      · rintro ⟨place, there⟩
        cases place with
        | slot =>
          obtain rfl := Option.some.inj (slot.symm.trans there)
          exact ⟨.way w, by rw [if_neg (by simp), if_pos ⟨rfl, by rw [own]⟩]⟩
        | way w' =>
          refine ⟨.way w', ?_⟩
          rw [if_neg (by simp), if_neg]
          · exact there
          · rintro ⟨same, near⟩
            obtain rfl := Place.way.inj same
            rw [s.ks.at_congr near] at there
            exact absurd (empty.symm.trans there) (by simp)

/-- R63: a put at the place of a group leaves the slot fitting. -/
theorem State.SlotLaw.fits_put {s : State} (law : s.SlotLaw) {g : Nat} {place : Place} {e : Option KeyEntry}
    (found : s.ks.locate g = some place) (entry : ∀ x, e = some x → x.group = g) :
    ({ s with ks := s.ks.put g e place } : State).SlotFits := by
  intro x slot
  have slotOf : ∃ x', s.ks.slot = some x' ∧ x'.group = x.group := by
    obtain ⟨old, stood, group⟩ := KeyStore.locate_some found
    cases place with
    | way w => exact ⟨x, slot, rfl⟩
    | slot => exact ⟨old, stood, group.trans (entry x slot).symm⟩
  obtain ⟨x', slot', same⟩ := slotOf
  have ways (w : Way) : (s.ks.put g e place).at x.group (.way w) = none ∨
      ∃ y, (s.ks.put g e place).at x.group (.way w) = some y ∧ s.pinned y.group = true := by
    obtain ⟨y, there, pinned⟩ := s.slotLaw_iff.mp law x' slot' w
    rw [same] at there
    rw [KeyStore.at_put]
    split
    · next here =>
      obtain ⟨rfl, near⟩ := here
      obtain ⟨old, stood, group⟩ := KeyStore.locate_some found
      cases new : e with
      | none => exact .inl rfl
      | some z =>
        have old' : s.ks.at x.group (.way w) = some old := by
          rw [← stood, s.ks.at_congr (near.resolve_left (by simp))]
        obtain rfl := Option.some.inj (there.symm.trans old')
        exact .inr ⟨z, rfl, by rw [entry z new, ← group]; exact pinned⟩
    · exact .inr ⟨y, there, pinned⟩
  obtain empty | ⟨y0, way0, used0⟩ := ways .way0
  · exact .inl (KeySet.freeWay_ne_none .way0 empty)
  obtain empty | ⟨y1, way1, used1⟩ := ways .way1
  · exact .inl (KeySet.freeWay_ne_none .way1 empty)
  · exact .inr (State.victim_pinned way0 way1 used0 used1)

/-! ## A purge and an expiry -/

/-- R57, R67: a change of one group, and the migration after it, as lookups find them. -/
theorem State.withGroup_held {s : State} (law : s.ks.StoreLaw) (slots : s.SlotLaw) {g : Nat} {change : KeyEntry → Option KeyEntry}
    (entry : ∀ e x, e.lawful = true → change e = some x → x.lawful = true ∧ x.group = e.group) (g' : Nat) :
    ({ s with ks := s.ks.withGroup g change } : State).migrate.ks.held g' =
      if g' = g then (s.ks.held g).bind change else s.ks.held g' := by
  rw [KeyStore.withGroup_eq law]
  cases found : s.ks.locate g with
  | none =>
    have fits : s.SlotFits := fun e slot => by
      obtain ⟨used0, used1⟩ := slots e slot
      right
      rw [State.victim, used0, used1]
    refine (State.migrate_held law fits g').trans ?_
    rw [KeyStore.held_none found]
    split
    · next same => rw [same, KeyStore.held_none found]; rfl
    · rfl
  | some place =>
    obtain ⟨old, stood, group⟩ := KeyStore.locate_some found
    have changed : ∀ x, (s.ks.at g place).bind change = some x → x.lawful = true ∧ x.group = g := by
      intro x new
      rw [stood] at new
      obtain ⟨lawful, same⟩ := entry old x ((s.ks.storeLaw_iff.mp law).1 g place old stood).1 new
      exact ⟨lawful, same.trans group⟩
    have held : s.ks.held g = s.ks.at g place := by rw [KeyStore.held, found]; rfl
    dsimp only
    rw [State.migrate_held (law.put place changed (law.located found)) (slots.fits_put found fun x new => (changed x new).2),
      law.held_put found changed, held]

theorem KeyEntry.expired_lawful {e x : KeyEntry} {ph : KeyPhase} (lawful : e.lawful = true) (left : e.expired ph = some x) :
    x.lawful = true ∧ x.group = e.group := by
  obtain ⟨g, a, b⟩ := e
  cases ph with
  | a => cases b <;> simp [KeyEntry.expired] at left; subst left; simpa [KeyEntry.lawful] using lawful
  | b => cases a <;> simp [KeyEntry.expired] at left; subst left; simpa [KeyEntry.lawful] using lawful

/-- R57: the words left of an entry when a phase has expired. -/
theorem KeyEntry.expired_word (e : KeyEntry) (ph ph' : KeyPhase) :
    ((e.expired ph).bind fun x => (x.phase ph').map (·.word)) = if ph' = ph then none else (e.phase ph').map (·.word) := by
  obtain ⟨g, a, b⟩ := e
  cases ph with
  | a => cases ph' <;> cases b <;> simp [KeyEntry.expired, KeyEntry.phase]
  | b => cases ph' <;> cases a <;> simp [KeyEntry.expired, KeyEntry.phase]

/-- Settles O22: KS after the event by `KeyStore.purge_eq`, `KeyStore.dropPhase_eq` and `State.migrate_keys`, what lookups find
by `State.withGroup_held`. -/
theorem purgesAndExpiriesMiss : Obligations.PurgesAndExpiriesMiss := by
  intro s law slots
  have only (ks : KeyStore) : ({ s with ks := ks } : State).migrate = { s with ks := ({ s with ks := ks } : State).migrate.ks } :=
    ({ s with ks := ks } : State).migrate_eq
  refine ⟨fun u spelled taken range => ?_, fun u spelled taken => ?_, fun g ph due registered => ?_⟩
  · have run : exec (.keyPurge u) s = .next ({ s with ks := s.ks.purge (u.word16 3) } : State).migrate :=
      managed spelled taken (decide_eq_true range)
    rw [KeyStore.purge_eq law] at run
    refine ⟨_, run, only _, State.migrate_keys _, fun g ph => ?_⟩
    rw [KeyStore.lookupWord_eq, State.withGroup_held law slots (by simp)]
    split
    · cases s.ks.held (u.word16 3) <;> rfl
    · rfl
  · have run : exec (.keyPurgeAllGroups u) s = .next { s with ks := s.ks.clear } := managed spelled taken rfl
    refine ⟨_, run, rfl, fun g ph => ?_⟩
    have nowhere : s.ks.clear.locate g = none := by
      refine KeyStore.locate_absent ?_ ?_ ?_ <;> simp [KeyStore.clear, KeySet.empty]
    rw [KeyStore.lookupWord_eq, KeyStore.held_none nowhere]
    rfl
  · have run : exec (.keyPhaseExpiry g ph) s = .next (s.expireKey g ph) :=
      congrArg Host.Outcome.next (if_pos (by rw [registered]; rfl))
    rw [State.expireKey, KeyStore.dropPhase_eq law] at run
    refine ⟨_, run, only _, State.migrate_keys _, fun g' ph' => ?_⟩
    rw [KeyStore.lookupWord_eq, State.withGroup_held law slots fun e x => KeyEntry.expired_lawful]
    by_cases here : g' = g
    · subst here
      rw [if_pos rfl, Option.bind_assoc]
      simp only [KeyEntry.expired_word, true_and]
      split
      · cases s.ks.held g' <;> rfl
      · rfl
    · rw [if_neg here, if_neg (fun both => here both.1)]
      rfl

end Sys2Proof.Machine
end

section
/-! Events of management units that re-evaluate ports: STAY_OPEN and ROOM_SETTINGS (R2, R3, R7, R88). -/

namespace Sys2Proof.Machine

/-! ## An event that decides ports, in the list (R95, R167) -/

theorem joinedTo_grows (list : List LinkUnit) (u : LinkUnit) : ∃ l, joinedTo list u = list ++ l := by
  unfold joinedTo
  split
  · split
    · exact ⟨_, rfl⟩
    · exact ⟨[], (List.append_nil _).symm⟩
  · split
    · exact ⟨_, rfl⟩
    · exact ⟨[], (List.append_nil _).symm⟩
  · exact ⟨_, rfl⟩

theorem Announced.grows {before t : State} {list made : List LinkUnit} (h : Announced before t list made) :
    ∃ l, made = list ++ l := by
  obtain ⟨units, -, -, rfl⟩ := h
  refine List.foldlRecOn (motive := fun made : List LinkUnit => ∃ l, made = list ++ l) _ _
    ⟨[], (List.append_nil _).symm⟩ fun made grown u _ => ?_
  obtain ⟨l, rfl⟩ := grown
  obtain ⟨more, same⟩ := joinedTo_grows (list ++ l) u
  exact ⟨l ++ more, same.trans (List.append_assoc _ _ _)⟩

/-- The parts of a state that an event's list of units is read against. -/
structure SameList (s b : State) : Prop where
  port  : ∀ p, s.port p = b.port p := by intro; rfl
  alert : s.su.alert = b.su.alert := by rfl
  rl    : s.rl = b.rl := by rfl

/-- An event not tied to a request, from `b`, that decides ports, read from a state with the same ports and list. -/
theorem eventDecided {s b mid : State} {event : State → State} {target : Port → Option Channel} (same : SameList s b)
    (decided : PortsDecided b mid (event b) target) (list : mid.rl = b.rl) : EventDecided s mid (b.untied event) target := by
  refine ⟨event b, decided.congr_before same.port same.alert, ?_⟩
  obtain ⟨-, -, -, made, announced, link⟩ := decided
  obtain ⟨l, grown⟩ := announced.grows
  have fell := State.untied_fellIn (s := b) (event := event) ⟨l, by rw [link, ← list]; exact grown⟩
  unfold FellIn at fell ⊢
  rw [same.rl]
  exact fell

theorem eventDecided_congr {before s s' t : State} {target : Port → Option Channel} (h : EventDecided before s t target)
    (same : s = s') : EventDecided before s' t target := same ▸ h

/-! ## ROOM_SETTINGS (R7, R154) -/

/-- R7: what ROOM_SETTINGS writes before the ports are re-evaluated. -/
def State.withSettings (s : State) (f : SettingsFields) : State := { s with
  su := { s.su with
    group := f.group
    cap := f.cap
    discretion := f.discretion
    packages := f.packages
    vacantFirst := f.vacantFirst
    vacantLast := f.vacantLast
    restarted := false }
  bq := { s.bq with high := f.high, low := f.low, hold := holdTest f.high f.low s.bq.queue.length s.bq.hold }
  md := if f.clearCapture then { s.md with capture := none } else s.md }

theorem State.applySettings_eq (s : State) (f : SettingsFields) :
    s.applySettings f = ((s.withSettings f).reevaluateAll s).migrate := by
  unfold State.applySettings State.withSettings
  rfl

theorem State.applySettings_decided (s : State) (f : SettingsFields) :
    PortsDecided s (s.withSettings f) (s.applySettings f) s.homes := by
  have port : ∀ p, (s.withSettings f).port p = s.port p := fun _ => rfl
  rw [State.applySettings_eq]
  exact State.reevaluateAll_decided port

/-- Settles O25: the decision of every port by `State.applySettings_decided`, the fields byte by byte. -/
theorem roomSettingsWriteEverySetting : Obligations.RoomSettingsWriteEverySetting := by
  intro u s spelled taken high low depth
  have run : exec (.roomSettings u) s = .next (s.closeBurst.untied fun b => b.applySettings (settingsFields u)) :=
    managed spelled taken rfl
  refine ⟨_, run, ?_⟩
  have byte {n : Nat} (range : n < 88) : (u.byte n).toNat = u.body[n].toNat :=
    congrArg BitVec.toNat (u.byte_eq_getElem range)
  have discretion : u.bit 10 0 = (u.body[10].toNat % 2 == 1) := by rw [bit_zero, byte (by decide)]; rfl
  have clears : u.bit 10 1 = decide (u.body[10].toNat / 2 % 2 = 1) := by rw [bit_one, byte (by decide)]
  have high' : clampHigh (u.byte 8).toNat = high := by rw [clampHigh, clampTo, byte (by decide)]
  have low' : clampLow (clampHigh (u.byte 8).toNat) (u.byte 9).toNat = low := by
    rw [high', clampLow, byte (by decide)]
  have decided := eventDecided (s := s) (event := fun b => b.applySettings (settingsFields u)) {}
    (s.closeBurst.applySettings_decided (settingsFields u)) rfl
  refine eventDecided_congr decided ?_
  have md : (if u.bit 10 1 = true then { s.closedMd with capture := none } else s.closedMd) =
      { s.closedMd with capture := if u.body[10].toNat / 2 % 2 = 1 then none else s.md.capture } := by
    simp only [clears, decide_eq_true_eq]
    split <;> rfl
  rw [← md, ← discretion, ← high', ← low', ← byte (by decide : 3 < 88), ← byte (by decide : 13 < 88),
    ← byte (by decide : 14 < 88)]
  rfl

end Sys2Proof.Machine
end

section
/-! STAY_OPEN (R2, R3). -/

namespace Sys2Proof.Machine

/-! ## The Preview List after ports have been decided (R85, R96) -/

/-- R96: a record of the list is one that stood there, or starts a title that a port has come to preview. -/
theorem listAfter_mem {s t : State} {rest : List Port} {p : Port} {l : List Preview} {r : Preview}
    (member : r ∈ listAfter s t rest p l) : r ∈ l ∨ (r.seconds = 0 ∧ r.bought = false ∧ t.previewing p = some r.title) := by
  unfold listAfter at member
  split at member
  · exact .inl member
  · next title shown =>
    split at member
    · exact .inl member
    · obtain old | new := List.mem_append.mp member
      · left
        split at old
        · exact old
        · exact List.mem_of_mem_eraseP old
      · obtain rfl := List.mem_singleton.mp new
        exact .inr ⟨rfl, rfl, shown⟩

theorem Decided.records {before s t : State} {target : Port → Option Channel} {r : Preview} (member : r ∈ t.pc.previews) :
    ∀ (order : List Port) (l : List Preview), Decided before s t target order l →
      r ∈ l ∨ (r.seconds = 0 ∧ r.bought = false ∧ ∃ p, t.previewing p = some r.title)
  | [], l, h => .inl (by unfold Decided at h; rwa [h] at member)
  | p :: rest, l, h => by
    unfold Decided at h
    split at h
    · exact Decided.records member rest l h.2
    · obtain old | new := Decided.records member rest _ h.2
      · exact (listAfter_mem old).imp_right fun ⟨zero, clear, shown⟩ => ⟨zero, clear, p, shown⟩
      · exact .inr new

theorem State.previewing_iff (s : State) (p : Port) (title : Nat) : s.previewing p = some title ↔
    (s.port p).state = .preview ∧ (s.port p).home.bind s.titleOn = some title := by
  unfold State.previewing
  cases s.port p with
  | active v home stream d n => cases v <;> simp [PortRecord.state, PortRecord.home]
  | off | blanked => simp [PortRecord.state]

theorem State.untied_port (s : State) (event : State → State) (p : Port) : (s.untied event).port p = (event s).port p := rfl

theorem State.untied_titleOn (s : State) (event : State → State) : (s.untied event).titleOn = (event s).titleOn := rfl

/-! ## STAY_OPEN -/

/-- R3: what STAY_OPEN writes before the ports are re-evaluated. -/
def State.withGuest (s : State) (f : StayOpenFields) : State := { s with
  su := { s.su with
    stayNumber := nextStay s.su.stayNumber
    spend := 0
    cap := f.cap
    packages := f.packages
    discretion := f.discretion
    occupancy := .occupied }
  lu := s.lu.forGuest f.ceiling f.freeze
  pc := { s.pc with previews := [] }
  pu := { s.pu with silentCount := 0 } }

theorem State.openStay_eq (s : State) (f : StayOpenFields) :
    s.openStay f = ((s.withGuest f).reevaluateAll s).migrate := by
  unfold State.openStay State.withGuest
  rfl

theorem State.openStay_decided (s : State) (f : StayOpenFields) :
    PortsDecided s (s.withGuest f) (s.openStay f) s.homes := by
  have port : ∀ p, (s.withGuest f).port p = s.port p := fun _ => rfl
  rw [State.openStay_eq]
  exact State.reevaluateAll_decided port

/-- Settles O23: the decision of every port by `State.openStay_decided`, the new records by `Decided.records`. -/
theorem stayOpenSetsTheNewGuest : Obligations.StayOpenSetsTheNewGuest := by
  intro u s spelled taken
  have run : exec (.stayOpen u) s = .next (if s.closeBurst.isOccupied = true then s.closeBurst.refuse u .occupied
      else s.closeBurst.untied fun b => b.openStay (stayOpenFields u)) := managed spelled taken rfl
  have occupied : s.closeBurst.isOccupied = true ↔ s.su.occupancy = .occupied := s.closeBurst.isOccupied_iff
  refine ⟨fun guest => ?_, fun free => ?_⟩
  · rw [run, if_pos (occupied.mpr guest), State.closeBurst_refuse_eq_refusedMd]
  · rw [if_neg (mt occupied.mp free)] at run
    have own := s.closeBurst.openStay_decided (stayOpenFields u)
    have decided := eventDecided (s := s) (event := fun b => b.openStay (stayOpenFields u)) {} own rfl
    have byte {n : Nat} (range : n < 88) : (u.byte n).toNat = u.body[n].toNat :=
      congrArg BitVec.toNat (u.byte_eq_getElem range)
    have discretion : u.bit 4 1 = (u.body[4].toNat / 2 % 2 == 1) := by rw [bit_one, byte (by decide)]; rfl
    have freeze : u.bit 4 0 = (u.body[4].toNat % 2 == 1) := by rw [bit_zero, byte (by decide)]; rfl
    refine ⟨_, run, eventDecided_congr decided ?_, fun r member => ?_⟩
    · rw [← discretion, ← freeze, ← byte (by decide : 3 < 88)]
      rfl
    · obtain ⟨-, -, ⟨order, -, ran⟩, -⟩ := own
      rw [State.untied_pc] at member
      simp only [State.untied_port, State.untied_titleOn]
      generalize s.closeBurst.openStay (stayOpenFields u) = joined at ran member ⊢
      obtain none | ⟨zero, clear, p, shown⟩ := Decided.records member order _ ran
      · cases none
      · exact ⟨zero, clear, p, (State.previewing_iff _ p r.title).mp shown⟩

end Sys2Proof.Machine
end

section
/-! STAY_CLOSE (R4, R140). -/

namespace Sys2Proof.Machine

/-! ## The order of closure (R4) -/

/-- R4: the earlier start first, and equal starts by title. -/
def Purchase.closesBefore (a b : Purchase) : Prop := a.start < b.start ∨ (a.start = b.start ∧ a.title < b.title)

theorem Purchase.before_iff (a b : Purchase) :
    a.before b = true ↔ a.start < b.start ∨ (a.start = b.start ∧ a.title ≤ b.title) := by
  simp [Purchase.before]

theorem insertPurchase_sorted {e : Purchase} : ∀ {l : List Purchase}, l.Pairwise Purchase.closesBefore →
    (∀ x ∈ l, x.title ≠ e.title) → (insertPurchase e l).Pairwise Purchase.closesBefore
  | [], _, _ => List.pairwise_singleton _ e
  | x :: l, sorted, apart => by
    obtain ⟨first, rest⟩ := List.pairwise_cons.mp sorted
    have other := apart x List.mem_cons_self
    unfold insertPurchase
    split
    · next before =>
      have before : e.closesBefore x := by
        rw [Purchase.before_iff] at before
        unfold Purchase.closesBefore
        omega
      refine List.pairwise_cons.mpr ⟨fun y member => ?_, sorted⟩
      obtain rfl | later := List.mem_cons.mp member
      · exact before
      · have after := first y later
        unfold Purchase.closesBefore at before after ⊢
        omega
    · next after =>
      have after : x.closesBefore e := by
        rw [Purchase.before_iff] at after
        unfold Purchase.closesBefore
        omega
      refine List.pairwise_cons.mpr ⟨fun y member => ?_, insertPurchase_sorted rest fun y m => apart y (List.mem_cons_of_mem _ m)⟩
      obtain rfl | old := List.mem_cons.mp ((insertPurchase_perm e l).mem_iff.mp member)
      · exact after
      · exact first y old

theorem closureOrder_sorted : ∀ {l : List Purchase}, (l.map (·.title)).Nodup → (closureOrder l).Pairwise Purchase.closesBefore
  | [], _ => List.Pairwise.nil
  | e :: l, nodup => by
    obtain ⟨fresh, rest⟩ := List.nodup_cons.mp nodup
    refine insertPurchase_sorted (closureOrder_sorted rest) fun x member same => fresh ?_
    exact List.mem_map.mpr ⟨x, (closureOrder_perm l).mem_iff.mp member, same⟩

/-! ## The closing of purchases (R131, R135, R140) -/

/-- R147: the credit of an open purchase at its closing. -/
def Purchase.credit (e : Purchase) : Nat := creditOf e.charge e.outage e.window

theorem State.closePurchase_eq (s : State) (e : Purchase) (time : Nat) : s.closePurchase e time = { s with
    su := { s.su with spend := s.su.spend - e.credit }
    bq := if 0 < e.credit then s.bq.joined fun seq => s.recordOf seq e .credit e.credit time else s.bq
    pu := { s.pu with purchases := s.pu.purchases.filter (·.title != e.title) } } := by
  unfold State.closePurchase
  show ((if 0 < e.credit then _ else s) : State).removePurchase e.title = _
  split
  · rw [State.bill_eq]
    rfl
  · next zero =>
    rw [show e.credit = 0 by omega]
    rfl

/-- R140: several purchases closed at one time. -/
theorem State.closeEach_eq (time : Nat) : ∀ (l : List Purchase) (s : State), ∃ left,
    l.foldl (fun t e => t.closePurchase e time) s = { s with
      su := { s.su with spend := s.su.spend - ((l.filter fun e => 0 < e.credit).map Purchase.credit).sum }
      bq := (l.filter fun e => 0 < e.credit).foldl
        (fun bq e => bq.joined fun seq => s.recordOf seq e .credit e.credit time) s.bq
      pu := { s.pu with purchases := left } }
  | [], s => ⟨_, rfl⟩
  | e :: l, s => by
    obtain ⟨left, rest⟩ := State.closeEach_eq time l (s.closePurchase e time)
    refine ⟨left, ?_⟩
    rw [List.foldl_cons, rest, s.closePurchase_eq]
    by_cases some' : 0 < e.credit
    · rw [List.filter_cons_of_pos (by simpa using some'), if_pos some', List.map_cons, List.sum_cons, ← Nat.sub_sub]
      rfl
    · rw [List.filter_cons_of_neg (by simpa using some'), if_neg some', show e.credit = 0 by omega]
      rfl

/-! ## STAY_CLOSE -/

/-- R140: the credits of a stay's closing. -/
def State.closingCredits (s : State) : List Purchase := (closureOrder s.pu.purchases).filter fun e => 0 < e.credit

/-- R131, R152: BQ after the credit records of a stay's closing. -/
def State.closingQueue (s : State) : BillingQueue := s.closingCredits.foldl
  (fun bq e => bq.joined fun seq => s.recordOf seq e .credit e.credit s.su.clock) s.bq

/-- R6: spend after the credits of a stay's closing. -/
def State.closingNet (s : State) : Nat := s.su.spend - (s.closingCredits.map Purchase.credit).sum

theorem State.closeAll_eq (s : State) : s.closeAll = { s with
    su := { s.su with spend := s.closingNet }, bq := s.closingQueue, pu := { s.pu with purchases := [] } } := by
  obtain ⟨left, closed⟩ := State.closeEach_eq s.su.clock (closureOrder s.pu.purchases) s
  have none : s.closeAll.pu.purchases = [] := s.closeAll_purchases
  rw [State.closeAll, closed] at none ⊢
  obtain rfl : left = [] := none
  rfl

/-- R4: what STAY_CLOSE writes before the ports are re-evaluated. -/
def State.withStayClosed (s : State) : State := { s with
  su := { s.su with
    spend := s.closingNet
    lastClosed := some { stay := s.su.stayNumber, net := s.closingNet }
    occupancy := if s.closingQueue.queue = [] then .vacant else .settling }
  bq := s.closingQueue
  pu := { s.pu with purchases := [] }
  lu := s.lu.afterStay
  pc := { s.pc with previews := [] } }

theorem State.closeStay_eq (s : State) : s.closeStay = (s.withStayClosed.reevaluateAll s).migrate := by
  unfold State.closeStay
  rw [s.closeAll_eq]
  unfold State.withStayClosed
  simp only [List.isEmpty_iff]

theorem State.closeStay_decided (s : State) : PortsDecided s s.withStayClosed s.closeStay s.homes := by
  have port : ∀ p, s.withStayClosed.port p = s.port p := fun _ => rfl
  rw [State.closeStay_eq]
  exact State.reevaluateAll_decided port

/-- R97: a room that is not OCCUPIED previews nothing. -/
theorem State.PortLaw.previews_none {s : State} (law : s.PortLaw) (closed : s.isOccupied = false) (p : Port) :
    s.previewing p = none := by
  have own := law p
  have never : s.mayPreview = fun _ => false := by
    funext tier
    cases tier <;> simp [State.mayPreview, closed]
  unfold State.previewing
  unfold State.portLawful at own
  split
  · next home stream d n port =>
    simp [port, State.showable, never] at own
  · rfl

/-- A re-evaluation of every port leaves R88's laws. -/
theorem portLaw_of_homes {s mid t : State} (decided : PortsDecided s mid t s.homes) (port : ∀ p, mid.port p = s.port p) :
    t.PortLaw := by
  refine decided.portLaw fun p none => ?_
  have off : mid.port p = .off := (port p).trans (PortRecord.off_of_home none)
  rw [State.portLawful, off]

/-- R96: a re-evaluation of every port in a room that is not OCCUPIED leaves the emptied list empty. -/
theorem closedPreviews {s mid t : State} (decided : PortsDecided s mid t s.homes) (port : ∀ p, mid.port p = s.port p)
    (empty : mid.pc.previews = []) (closed : mid.su.occupancy ≠ .occupied) : t.pc.previews = [] := by
  have law := portLaw_of_homes decided port
  obtain ⟨⟨su, -⟩, -, ⟨order, -, ran⟩, -⟩ := decided
  have vacated : t.isOccupied = false := by
    rw [Bool.eq_false_iff, Ne, t.isOccupied_iff, su]
    exact closed
  refine List.eq_nil_iff_forall_not_mem.mpr fun r member => ?_
  rw [empty] at ran
  obtain none | ⟨-, -, p, shown⟩ := Decided.records member order _ ran
  · cases none
  · rw [law.previews_none vacated p] at shown
    cases shown

/-- Settles O24: the closings by `State.closeAll_eq` in the order of `closureOrder_sorted`, the ports by
`State.closeStay_decided`, and no preview by `closedPreviews`. -/
theorem stayCloseSettlesTheStay : Obligations.StayCloseSettlesTheStay := by
  intro u s spelled taken
  have run : exec (.stayClose u) s = .next (if s.closeBurst.isOccupied = true then s.closeBurst.untied State.closeStay
      else s.closeBurst) := managed spelled taken rfl
  have occupied : s.closeBurst.isOccupied = true ↔ s.su.occupancy = .occupied := s.closeBurst.isOccupied_iff
  refine ⟨fun free => ?_, fun guest law => ?_⟩
  · rw [run, if_neg (mt occupied.mp free), State.closeBurst_eq]
  rw [if_pos (occupied.mpr guest)] at run
  have own := s.closeBurst.closeStay_decided
  have decided := eventDecided (s := s) (event := State.closeStay) {} own rfl
  have closed : s.closeBurst.withStayClosed.su.occupancy ≠ .occupied := by
    show (if s.closeBurst.closingQueue.queue = [] then Occupancy.vacant else .settling) ≠ .occupied
    split <;> decide
  have previews := closedPreviews own (fun _ => rfl) rfl closed
  obtain ⟨⟨su, -, -, -, -, lu, pu, bq, -⟩, -⟩ := own
  rw [← State.untied_su] at su
  rw [← State.untied_lu] at lu
  rw [← State.untied_pu] at pu
  rw [← State.untied_bq] at bq
  rw [← State.untied_pc] at previews
  generalize s.closeBurst.untied State.closeStay = t at run decided su lu pu bq previews
  have su' : t.su = { s.su with
      spend := s.closingNet
      lastClosed := some { stay := s.su.stayNumber, net := s.closingNet }
      occupancy := if t.bq.queue = [] then .vacant else .settling } := by
    rw [bq]
    exact su
  refine ⟨t, closureOrder s.pu.purchases, run, closureOrder_perm _, closureOrder_sorted law.2, pu, bq, su', lu, previews,
    eventDecided_congr decided ?_⟩
  rw [su, lu, pu, bq]
  rfl

end Sys2Proof.Machine
end

section
/-! Where a decided port is found, and the events of the lock that decide ports: SET_CEILING, END_UNLOCKS, RELOCK and the
end of an unlock (R111, R117, R119). -/

namespace Sys2Proof.Machine

/-! ## Where a decided port is found (R83 to R88) -/

/-- R88: port p stands in `t` as a decision for channel c places it, `old` being its record before the event. -/
def State.PlacedFrom (t : State) (old : PortRecord) (p : Port) (c : Channel) : Prop :=
  ∃ l d, t.Decides l p c d ∧ t.port p = t.placed old c d

section
variable {t : State} {old : PortRecord} {p : Port} {c : Channel}

theorem State.PlacedFrom.congr {t' : State} (h : t.PlacedFrom old p c) (port : t'.port p = t.port p) (su : t'.su = t.su)
    (sf : t'.sf = t.sf) (tm : t'.tm = t.tm) (lu : t'.lu = t.lu) (pu : t'.pu = t.pu) : t'.PlacedFrom old p c := by
  obtain ⟨l, d, decides, placed⟩ := h
  have same : t'.placed old c d = t.placed old c d := by
    cases d <;> simp only [State.placed, State.streamOf, State.entry, su, sf, tm]
  exact ⟨l, d, decides.congr su tm lu pu, by rw [port, placed, same]⟩

/-- R85. -/
theorem State.placed_alert (t : State) (old : PortRecord) (c : Channel) :
    ∃ stream d n, t.placed old c .alert = .active .alert c stream d n := by
  cases old with
  | off | blanked => exact ⟨_, _, _, rfl⟩
  | active v => cases v <;> exact ⟨_, _, _, rfl⟩

theorem State.PlacedFrom.home (h : t.PlacedFrom old p c) : (t.port p).home = some c := by
  obtain ⟨l, d, -, placed⟩ := h
  have blank : ∀ r, (blankedFrom old r c).home = some c := fun r => by
    obtain ⟨n, same⟩ := blankedFrom_blanked old r c
    rw [same]
    rfl
  rw [placed]
  cases d with
  | alert =>
    obtain ⟨_, _, _, same⟩ := t.placed_alert old c
    rw [same]
    rfl
  | absent => exact blank _
  | blank r => exact blank r
  | playing | preview => rfl

/-- R88: ALERT is placed only while an alert is active, and OFF never. -/
theorem State.PlacedFrom.state (h : t.PlacedFrom old p c) (quiet : t.su.alert = none) :
    (t.port p).state ≠ .alert ∧ (t.port p).state ≠ .off := by
  obtain ⟨l, d, decides, placed⟩ := h
  have blank : ∀ r, (blankedFrom old r c).state = .blanked := fun r => by
    obtain ⟨n, same⟩ := blankedFrom_blanked old r c
    rw [same]
    rfl
  rw [placed]
  cases d with
  | alert =>
    have alerted := (State.tuneDecision_alert_iff _ p c).mp decides.eq_tuneDecision.symm
    rw [show ({ t with pc := { t.pc with previews := l } } : State).su.alert = none from quiet] at alerted
    cases alerted
  | absent => simp [State.placed, blank]
  | blank r => simp [State.placed, blank]
  | playing | preview => exact ⟨by simp [State.placed, PortRecord.state], by simp [State.placed, PortRecord.state]⟩

/-- R88: what a port placed in PLAYING or PREVIEW shows is within its effective ceiling; it keeps a delivery it had. -/
theorem State.PlacedFrom.shows (h : t.PlacedFrom old p c) (shows : (t.port p).state = .playing ∨ (t.port p).state = .preview) :
    (t.port p).delivery = some (old.delivery.getD .noSignal) ∧
      ∃ e, t.entry c = some e ∧ e.rating ≤ t.effectiveCeiling p := by
  obtain ⟨l, d, decides, placed⟩ := h
  have blank : ∀ r, (blankedFrom old r c).state = .blanked := fun r => by
    obtain ⟨n, same⟩ := blankedFrom_blanked old r c
    rw [same]
    rfl
  rw [placed] at shows
  have entered : d = .playing ∨ d = .preview := by
    cases d with
    | alert =>
      obtain ⟨_, _, _, same⟩ := t.placed_alert old c
      simp [same, PortRecord.state] at shows
    | absent => simp [State.placed, blank] at shows
    | blank r => simp [State.placed, blank] at shows
    | playing => exact .inl rfl
    | preview => exact .inr rfl
  obtain ⟨-, e, entry, within, -⟩ := State.tuneDecision_shows (decides.eq_tuneDecision ▸ entered)
  refine ⟨?_, e, entry, within⟩
  rw [placed]
  obtain rfl | rfl := entered <;> rfl

/-- R86, R88: an ABSENT channel. -/
theorem State.PlacedFrom.absent (h : t.PlacedFrom old p c) (quiet : t.su.alert = none) (entry : t.entry c = none) :
    t.port p = blankedFrom old .notEntitled c := by
  obtain ⟨l, d, decides, placed⟩ := h
  unfold State.Decides at decides
  rw [quiet, entry] at decides
  obtain rfl : d = .absent := decides
  exact placed

/-- R83, check 4. -/
theorem State.PlacedFrom.locked {e : Service} (h : t.PlacedFrom old p c) (quiet : t.su.alert = none)
    (entry : t.entry c = some e) (occupied : t.su.occupancy = .occupied) (above : t.effectiveCeiling p < e.rating) :
    ∃ n, t.port p = .blanked .locked c n := by
  obtain ⟨l, d, decides, placed⟩ := h
  unfold State.Decides at decides
  rw [quiet, entry] at decides
  obtain rfl : d = .blank .locked :=
    decides.2.1 (fun shut => shut.1 occupied) (by rwa [State.effectiveCeiling_eq] at above)
  rw [placed]
  exact blankedFrom_blanked old .locked c

end

section
variable {before s t : State} {target : Port → Option Channel} {p : Port} {c : Channel}

theorem PortsDecided.placed (h : PortsDecided before s t target) (some : target p = some c) :
    t.PlacedFrom (before.port p) p c := by
  obtain ⟨-, -, ⟨order, all, decided⟩, -⟩ := h
  exact Decided.decides some (all.mem_iff.mpr (mem_allPorts p)) decided

theorem PortsDecided.unmoved (h : PortsDecided before s t target) (none : target p = none) : t.port p = s.port p := by
  obtain ⟨-, -, ⟨order, all, decided⟩, -⟩ := h
  exact decided.stays none (all.mem_iff.mpr (mem_allPorts p))

/-- R95, R167: where the units of an event stand in the list is all that is settled after its decisions. -/
theorem EventDecided.joined (h : EventDecided before s t target) : ∃ joined, PortsDecided before s joined target ∧
    ∃ rl choices, t = { joined with rl := rl, choices := choices } := by
  obtain ⟨joined, decided, units, mixed, behind, -, -, same⟩ := h
  exact ⟨joined, decided, _, _, same⟩

theorem EventDecided.outside (h : EventDecided before s t target) : SameOutsidePorts s t := by
  obtain ⟨joined, decided, rl, choices, rfl⟩ := h.joined
  exact decided.1

theorem EventDecided.placed (h : EventDecided before s t target) (some : target p = some c) :
    t.PlacedFrom (before.port p) p c := by
  obtain ⟨joined, decided, rl, choices, rfl⟩ := h.joined
  exact (decided.placed some).congr rfl rfl rfl rfl rfl rfl

theorem EventDecided.unmoved (h : EventDecided before s t target) (none : target p = none) : t.port p = s.port p := by
  obtain ⟨joined, decided, rl, choices, rfl⟩ := h.joined
  exact decided.unmoved none

/-- A port whose target is its own home channel keeps that, decided or not. -/
theorem EventDecided.home (h : EventDecided before s t target) (own : target p = (s.port p).home) :
    (t.port p).home = target p := by
  cases moved : target p with
  | none => rw [h.unmoved moved, ← own, moved]
  | some c => exact (h.placed moved).home

/-- R88: a re-evaluated port that plays or previews is within its effective ceiling. -/
theorem EventDecided.within (h : EventDecided before s t target) (own : target p = (s.port p).home)
    (home : (t.port p).home = some c) (shows : (t.port p).state = .playing ∨ (t.port p).state = .preview) :
    ∃ e, t.entry c = some e ∧ e.rating ≤ if t.lu.unlocks[p] ≠ none then 7 else t.lu.ceiling := by
  rw [h.home own] at home
  rw [← t.effectiveCeiling_eq]
  exact ((h.placed home).shows shows).2

end

/-! ## The ceiling and the unlocks (R117, R119) -/

theorem State.setCeiling_same {s : State} {value : Nat} (same : value = s.lu.ceiling) : s.setCeiling value = s := by
  subst same
  exact if_pos rfl

theorem State.setCeiling_decided {s : State} {value : Nat} (other : value ≠ s.lu.ceiling) :
    PortsDecided s { s with lu := { s.lu with ceiling := value } } (s.setCeiling value) s.homes := by
  have port : ∀ p, ({ s with lu := { s.lu with ceiling := value } } : State).port p = s.port p := fun _ => rfl
  rw [show s.setCeiling value = _ from if_neg other]
  exact State.reevaluateAll_decided port

/-- R113, R119: the ports whose unlock an event ends. -/
def State.unlockedHomes (s : State) (p : Port) : Option Channel := if s.lu.unlocks[p] ≠ none then (s.port p).home else none

/-- R113, R119: every unlock is ended by an event that writes the lock, and the ports that had one are re-evaluated. -/
theorem State.reevaluateUnlocked_decided (s : State) (lu : LockUnit) :
    PortsDecided s { s with lu := lu } (State.reevaluateWhere { s with lu := lu } s s.hasUnlock).migrate s.unlockedHomes :=
  State.reevaluateWhere_decided (fun _ => rfl) fun p => by
    unfold State.unlockedHomes State.hasUnlock
    cases s.lu.unlocks[p] <;> rfl

theorem State.endUnlock_none {s : State} {p : Port} (none : s.lu.unlocks[p] = none) : s.endUnlock p = s :=
  if_neg (by simp [State.hasUnlock, none])

theorem State.endUnlock_decided {s : State} {p : Port} (held : s.lu.unlocks[p] ≠ none) :
    PortsDecided s { s with lu := { s.lu with unlocks := s.lu.unlocks.set p none } } (s.endUnlock p)
      fun q => if q = p then (s.port p).home else none := by
  rw [show s.endUnlock p = _ from if_pos (Option.isSome_iff_ne_none.mpr held)]
  exact State.reevaluate_decided (s := s.setUnlock p none) rfl

/-- Settles O31: the re-evaluations by `State.setCeiling_decided` and `State.reevaluateUnlocked_decided`, and what the ports
show after them by `EventDecided.within`. -/
theorem ceilingOrdersHoldThePorts : Obligations.CeilingOrdersHoldThePorts := by
  intro u s kind taken
  have value : min (u.byte 4).toNat 7 = min u.body[4].toNat 7 := by rw [u.byte_eq_getElem (by decide)]
  have setCeiling (order : u.body[3].toNat = 1) :
      exec (.setCeiling u) s = .next (s.closeBurst.untied fun b => b.setCeiling (min u.body[4].toNat 7)) := by
    rw [← value]
    exact managed (spellsSetCeiling_of kind (by omega)) taken ((orderOk_iff u).mpr (by omega))
  dsimp only
  refine ⟨fun order same => ?_, fun order other => ?_, fun order => ?_⟩
  · have same : s.closeBurst.setCeiling (min u.body[4].toNat 7) = s.closeBurst := State.setCeiling_same same
    rw [setCeiling order, State.untied_silent (by rw [same]) (by rw [same]), same, State.closeBurst_eq]
  · have decided := eventDecided (s := s) (event := fun b => b.setCeiling (min u.body[4].toNat 7)) {}
      (State.setCeiling_decided (s := s.closeBurst) other) rfl
    refine ⟨_, setCeiling order, decided, fun p c home shows => ?_⟩
    obtain ⟨e, entry, within⟩ := decided.within rfl home shows
    obtain ⟨-, -, -, -, tm, -⟩ := decided.outside
    exact ⟨e, by rw [← entry, State.entry, State.entry, tm]; rfl, within⟩
  · have run : exec (.endUnlocks u) s = .next (s.closeBurst.untied State.endUnlocks) :=
      managed (spellsOrder_of kind order) taken ((orderOk_iff u).mpr (by omega))
    have decided := eventDecided (s := s) (event := State.endUnlocks) {}
      (s.closeBurst.reevaluateUnlocked_decided s.closeBurst.lu.endUnlocks) rfl
    refine ⟨_, run, decided, fun p held c home shows => ?_⟩
    obtain ⟨e, entry, within⟩ := decided.within (if_pos held) home shows
    obtain ⟨-, -, -, -, tm, -⟩ := decided.outside
    exact ⟨e, by rw [← entry, State.entry, State.entry, tm]; rfl, within⟩

end Sys2Proof.Machine
end

section
/-! Requests that decide ports, and the lock's: RELOCK, PIN_UNLOCK, PIN_SET, CEILING (R108 to R113, R117). -/

namespace Sys2Proof.Machine

/-- R163, R164: a request that decides ports and is then answered. -/
theorem decidedAndAnswered {s mid counted t : State} {target : Port → Option Channel}
    (decided : PortsDecided s.countRequest counted t target) (u : Unit96) (code : ReplyCode) (detail : Nat)
    (same : counted = { mid with rl := s.countRequest.rl } := by rfl) (link : mid.rl = s.rl := by rfl) :
    PortsDecidedAndAnswered s mid (t.answer u code detail) target (replyTo u code detail) := by
  subst same
  rw [State.answer_eq]
  have stay : ∀ p, target p = none → t.port p = mid.port p := fun p none => decided.unmoved none
  obtain ⟨outside, keys, ⟨order, all, ran⟩, made, announced, rl⟩ := decided.congr_before (before' := s) (fun _ => rfl) rfl
  refine ⟨outside.send _, (keys.congr rfl).send _, ⟨order, all, ?_⟩, made, ?_, ?_⟩
  · exact Decided.congr (t := t) (s := { mid with rl := s.countRequest.rl }) (t' := t.send (replyTo u code detail)) (fun _ _ => rfl)
      (fun _ _ => rfl) stay (fun _ => rfl) (fun _ => rfl) rfl rfl rfl rfl rfl rfl _ _ ran
  · rw [link]
    exact announced.congr (fun _ => rfl) rfl (fun _ => rfl) fun _ => .inl rfl
  · rw [link, State.send, rl]
    rfl

section
variable {before s t : State} {target : Port → Option Channel} {reply : LinkUnit} {p : Port} {c : Channel}

theorem PortsDecidedAndAnswered.placed (h : PortsDecidedAndAnswered before s t target reply) (some : target p = some c) :
    t.PlacedFrom (before.port p) p c := by
  obtain ⟨-, -, ⟨order, all, decided⟩, -⟩ := h
  exact Decided.decides some (all.mem_iff.mpr (mem_allPorts p)) decided

theorem PortsDecidedAndAnswered.unmoved (h : PortsDecidedAndAnswered before s t target reply) (none : target p = none) :
    t.port p = s.port p := by
  obtain ⟨-, -, ⟨order, all, decided⟩, -⟩ := h
  exact decided.stays none (all.mem_iff.mpr (mem_allPorts p))

end

/-! ## An unlock that ends (R117) -/

/-- R117: what the end of port p's unlock leaves there, once the port is decided on its home channel or has none. -/
theorem unlockEnded {s t : State} {p : Port} (placed : ∀ c, (s.port p).home = some c → t.PlacedFrom (s.port p) p c)
    (unmoved : (s.port p).home = none → t.port p = s.port p) (su : t.su = s.su) (tm : t.tm = s.tm)
    (lu : t.lu = { s.lu with unlocks := s.lu.unlocks.set p none }) :
    (∀ c, (t.port p).home = some c → (t.port p).state = .playing ∨ (t.port p).state = .preview →
      ∃ service, s.entry c = some service ∧ service.rating ≤ s.lu.ceiling) ∧
    (∀ c service, (s.port p).home = some c → s.entry c = some service → s.lu.ceiling < service.rating →
      s.su.occupancy = .occupied → s.su.alert = none → ∃ n, t.port p = .blanked .locked c n) := by
  have ceiling : t.effectiveCeiling p = s.lu.ceiling := by
    rw [State.effectiveCeiling, lu]
    simp
  have entry : t.entry = s.entry := by
    funext c
    rw [State.entry, State.entry, tm]
  refine ⟨fun c home shows => ?_, fun c e home present above occupied quiet => ?_⟩
  · have own : (s.port p).home = some c := by
      cases old : (s.port p).home with
      | none => rw [unmoved old, old] at home; cases home
      | some c' => rw [← home, (placed c' old).home]
    rw [← entry, ← ceiling]
    exact ((placed c own).shows shows).2
  · exact (placed c home).locked (su ▸ quiet) (entry ▸ present) (su ▸ occupied) (ceiling ▸ above)

/-- Settles O29: UNLOCK_END and RELOCK end the unlock alike (`State.endUnlock_decided`), and `unlockEnded` says what the
port may then show. -/
theorem unlocksEnd : Obligations.UnlocksEnd := by
  unfold Obligations.UnlocksEnd
  intro s p
  dsimp only
  have run : exec (.unlockEnd p) s = .next (s.untied fun b => b.endUnlock p) := rfl
  refine ⟨fun free => ?_, fun held => ?_, fun u spelled room named => ⟨fun free => ?_, fun held => ?_⟩⟩
  · have same := State.endUnlock_none free
    rw [run, State.untied_silent (by rw [same]) (by rw [same]), same]
  · have decided := eventDecided (s := s) (event := fun b => b.endUnlock p) {} (State.endUnlock_decided held) rfl
    refine ⟨_, run, decided, ?_⟩
    obtain ⟨su, -, -, -, tm, lu, -⟩ := decided.outside
    refine unlockEnded (fun c home => decided.placed ?_) (fun home => decided.unmoved ?_) su tm lu
    · rw [if_pos rfl, home]
    · rw [if_pos rfl, home]
  · have same : s.countRequest.endUnlock p = s.countRequest := State.endUnlock_none free
    rw [exec_relock spelled room named, same, ← State.answer_eq, State.countRequest_answer]
  · have decided := decidedAndAnswered (s := s)
      (mid := { s with lu := { s.lu with unlocks := s.lu.unlocks.set p none } })
      (State.endUnlock_decided (s := s.countRequest) held) u .ok 0
    rw [State.answer_eq] at decided
    refine ⟨_, exec_relock spelled room named, decided, ?_⟩
    obtain ⟨su, -, -, -, tm, lu, -⟩ := decided.1
    refine unlockEnded (fun c home => decided.placed ?_) (fun home => decided.unmoved ?_) su tm lu
    · rw [if_pos rfl]; exact home
    · rw [if_pos rfl]; exact home

/-! ## A PIN compared (R108 to R113) -/

theorem LockUnit.pinRight_iff {lu : LockUnit} {offered : List Nat} : lu.pinRight offered = true ↔ lu.pin = some offered :=
  beq_iff_eq

theorem holdDue_eq (n : Nat) : holdDue n = min n 4294967295 := rfl

theorem unlockMinutes_eq (u : Unit96) : unlockMinutes u = max 1 (min (u.word16 1) 240) := by
  unfold unlockMinutes
  rfl

/-- R110: CEILING at another value than the present one, from a lock whose failures it may have cleared. -/
theorem State.setCeiling_answered {s mid : State} {lu : LockUnit} {value : Nat} (other : value ≠ lu.ceiling)
    (counted : mid = { s.countRequest with lu := lu }) (u : Unit96) :
    PortsDecidedAndAnswered s { s with lu := { lu with ceiling := value } } ((mid.setCeiling value).answer u .ok value)
      s.homes (replyTo u .ok value) := by
  have other : value ≠ mid.lu.ceiling := by rw [counted]; exact other
  have decided := State.setCeiling_decided other
  subst counted
  exact decidedAndAnswered (decided.congr_before (before' := s.countRequest) (fun _ => rfl) rfl) u .ok value

/-- R108: the right PIN's unlock. -/
theorem State.unlockPort_decided (s : State) (p : Port) (seconds : Nat) :
    PortsDecided s { s with lu := { s.lu with
        failures := 0
        unlocks := s.lu.unlocks.set p (some (holdDue (s.su.clock + seconds))) } }
      (s.unlockPort p seconds) fun q => if q = p then (s.port p).home else none := by
  unfold State.unlockPort
  exact State.reevaluate_decided rfl

/-- Settles O32: each request by its compared case, the ports by `State.unlockPort_decided` and
`State.setCeiling_answered`. -/
theorem rightPinOpensTheLock : Obligations.RightPinOpensTheLock := by
  intro u s room thawed clock
  have right {offered : List Nat} (pin : s.lu.pin = some offered) : s.countRequest.lu.pinRight offered = true :=
    LockUnit.pinRight_iff.mpr pin
  have known {offered : List Nat} (pin : s.lu.pin = some offered) : s.countRequest.lu.pin ≠ none := by
    rw [show s.countRequest.lu.pin = _ from pin]
    exact Option.some_ne_none _
  dsimp only
  refine ⟨fun p spelled named shape unlocked pin => ?_, fun spelled old new occupied unlocked long pin => ?_,
    fun spelled shape same => ?_, fun spelled shape lower => ?_, fun spelled shape raise unlocked pin => ?_⟩
  · have run := exec_pinUnlock spelled room
    have ok : (portOk u && pinOk u 3) = true := by rw [portOk_of named, shape]; rfl
    rw [State.requestPinUnlock_compared (s := s.countRequest) ok thawed (known pin) unlocked, if_pos (right pin),
      portField_of named, State.atTail_settleHeld_below, unlockMinutes_eq] at run
    · refine ⟨_, run, ?_⟩
      exact decidedAndAnswered (s.countRequest.unlockPort_decided p (60 * max 1 (min (u.word16 1) 240))) u .ok _
    · rw [State.answer_eq]
      have same := (s.countRequest.unlockPort_decided p (60 * unlockMinutes u)).1.1
      show (s.countRequest.unlockPort p (60 * unlockMinutes u)).su.clock < 4294967295
      rw [same]
      exact clock
  · have run := exec_pinSet spelled room
    have ok : (pinOk u 1 && pinOk u 10) = true := by rw [old, new]; rfl
    rw [State.requestPinSet_compared (s := s.countRequest) ok thawed occupied unlocked long, if_pos] at run
    · rw [run, State.answer_eq, State.answeredRl, List.append_nil]
      have failures : (if s.lu.pin.isSome then 0 else s.lu.failures) = if s.lu.pin = none then s.lu.failures else 0 := by
        cases s.lu.pin <;> rfl
      rw [← failures]
      rfl
    · rw [Bool.or_eq_true]
      exact pin.imp (fun free => Option.isNone_iff_eq_none.mpr free) right
  · have run := exec_ceiling spelled room
    rw [← ceilingField_eq] at same ⊢
    rw [State.requestCeiling_lower (s := s.countRequest) shape thawed (le_of_eq same), State.setCeiling_same (s := s.countRequest) same,
      State.countRequest_answer] at run
    exact run
  · have run := exec_ceiling spelled room
    rw [← ceilingField_eq] at lower ⊢
    rw [State.requestCeiling_lower (s := s.countRequest) shape thawed (le_of_lt lower)] at run
    exact ⟨_, run, State.setCeiling_answered (ne_of_lt lower) rfl u⟩
  · have run := exec_ceiling spelled room
    rw [← ceilingField_eq] at raise ⊢
    rw [State.requestCeiling_compared (s := s.countRequest) shape thawed raise (known pin) unlocked, if_pos (right pin)] at run
    exact ⟨_, run, State.setCeiling_answered (lu := { s.lu with failures := 0 }) (ne_of_gt raise) rfl u⟩

end Sys2Proof.Machine
end

section
/-! A wrong PIN (R112, R113). -/

namespace Sys2Proof.Machine

/-- R113: the seconds are the same in every row that counts them from the clock. -/
theorem LockUnit.countFailure_eq (lu : LockUnit) (clock : Nat) : lu.countFailure clock = { lu with
    failures := lu.failures + 1, strict := lu.strict.map fun _ => min (clock + 2400) 4294967295 } := rfl

theorem LockUnit.budget_eq (lu : LockUnit) : lu.budget = if lu.strict = none then 5 else 2 := by
  unfold LockUnit.budget
  cases lu.strict <;> rfl

/-- R113: the budget is the one in force when the PIN is compared. -/
theorem LockUnit.countFailure_budget (lu : LockUnit) (clock : Nat) :
    (lu.countFailure clock).budget = if lu.strict = none then 5 else 2 := by
  rw [LockUnit.budget_eq, LockUnit.countFailure_eq]
  simp

/-- R113: below the budget. -/
theorem State.answerWrongPin_below {s : State} {budget : Nat} (own : budget = if s.lu.strict = none then 5 else 2)
    (below : s.lu.failures + 1 < budget) (u : Unit96) :
    s.countRequest.answerWrongPin u = { s with
      lu := s.lu.countFailure s.su.clock
      rl := s.answeredRl [] (replyTo u .wrongPin (budget - (s.lu.failures + 1))) } := by
  have counted : (s.lu.countFailure s.su.clock).budget = budget := (s.lu.countFailure_budget _).trans own.symm
  unfold State.answerWrongPin
  rw [State.wrongPin_below (s := s.countRequest)]
  · show State.answer _ u .wrongPin _ = _
    rw [State.answer_eq, State.answeredRl, List.append_nil, ← counted]
    rfl
  · show s.lu.failures + 1 ≠ (s.lu.countFailure s.su.clock).budget
    omega

/-- R113: what a lockout that starts writes. -/
def LockUnit.lockedOut (lu : LockUnit) (clock : Nat) : LockUnit := { lu with
  failures := 0
  lockout := some (min (clock + 600) 4294967295)
  strict := lu.strict.map fun _ => min (clock + 2400) 4294967295
  unlocks := Vector.replicate 4 none }

/-- R113: at the budget. -/
theorem State.answerWrongPin_at {s : State} {budget : Nat} (own : budget = if s.lu.strict = none then 5 else 2)
    (reached : s.lu.failures + 1 = budget) (u : Unit96) :
    PortsDecidedAndAnswered s { s with lu := s.lu.lockedOut s.su.clock } (s.countRequest.answerWrongPin u) s.unlockedHomes
      (replyTo u .lockoutStarted 600) := by
  have counted : (s.lu.countFailure s.su.clock).budget = budget := (s.lu.countFailure_budget _).trans own.symm
  unfold State.answerWrongPin
  rw [State.wrongPin_at (s := s.countRequest)]
  · exact decidedAndAnswered (s.countRequest.reevaluateUnlocked_decided _) u .lockoutStarted 600
  · show s.lu.failures + 1 = (s.lu.countFailure s.su.clock).budget
    omega

/-- R108 to R110: the three requests that compare a PIN go the same way with a wrong one. -/
theorem exec_wrongPin {u : Unit96} {s : State} {stored offered : List Nat} {c : Instr} (room : s.rl.unanswered < 8)
    (thawed : s.lu.frozen = false) (clock : s.su.clock < 4294967295) (unlocked : s.lu.lockout = none)
    (pin : s.lu.pin = some stored) (wrong : offered ≠ stored)
    (row : c = .pinUnlock u ∧ u.spellsRequest 5 = true ∧ u.header[1].toNat ≤ 3 ∧ pinOk u 3 = true ∧ offered = pinField u 3 ∨
      c = .pinSet u ∧ u.spellsRequest 6 = true ∧ pinOk u 1 = true ∧ pinOk u 10 = true ∧ offered = pinField u 1 ∧
        s.su.occupancy = .occupied ∧ 4 ≤ (pinField u 10).length ∨
      c = .ceiling u ∧ u.spellsRequest 7 = true ∧ pinOk u 2 = true ∧ offered = pinField u 2 ∧
        s.lu.ceiling < min u.body[1].toNat 7) : exec c s = .next (s.countRequest.answerWrongPin u) := by
  have known : s.countRequest.lu.pin ≠ none := by
    rw [show s.countRequest.lu.pin = _ from pin]
    exact Option.some_ne_none _
  have compared : ¬ s.countRequest.lu.pinRight offered = true := by
    rw [LockUnit.pinRight_iff, show s.countRequest.lu.pin = _ from pin]
    exact fun same => wrong (Option.some.inj same).symm
  have still : (s.countRequest.answerWrongPin u).atTail State.settleHeld = s.countRequest.answerWrongPin u :=
    State.atTail_settleHeld_below ((s.countRequest.wrongPin_still.answered u _ _).clock.trans_lt clock)
  obtain ⟨rfl, spelled, named, shape, rfl⟩ | ⟨rfl, spelled, old, new, rfl, occupied, long⟩ | ⟨rfl, spelled, shape, rfl, raise⟩ := row
  · have ok : (portOk u && pinOk u 3) = true := by rw [Bool.and_eq_true]; exact ⟨(portOk_iff u).mpr named, shape⟩
    have run := exec_pinUnlock spelled room
    rwa [State.requestPinUnlock_compared (s := s.countRequest) ok thawed known unlocked, if_neg compared, still] at run
  · have ok : (pinOk u 1 && pinOk u 10) = true := by rw [old, new]; rfl
    have run := exec_pinSet spelled room
    rwa [State.requestPinSet_compared (s := s.countRequest) ok thawed occupied unlocked long, if_neg, still] at run
    rw [Bool.or_eq_true, Option.isNone_iff_eq_none]
    exact fun either => either.elim known compared
  · have run := exec_ceiling spelled room
    rw [← ceilingField_eq] at raise
    rwa [State.requestCeiling_compared (s := s.countRequest) shape thawed raise known unlocked, if_neg compared, still] at run

/-- Settles O33: the three requests by `exec_wrongPin`, below the budget and at it. -/
theorem wrongPinCountsAFailure : Obligations.WrongPinCountsAFailure := by
  unfold Obligations.WrongPinCountsAFailure
  intro u s stored c offered room thawed clock unlocked pin wrong row
  have run := exec_wrongPin room thawed clock unlocked pin wrong row
  refine ⟨fun below => ?_, fun reached => ?_⟩
  · rw [run, State.answerWrongPin_below rfl below u, LockUnit.countFailure_eq]
  · exact ⟨_, run, State.answerWrongPin_at rfl reached u⟩

end Sys2Proof.Machine
end

section
/-! The house alert: its start, its moves and its end (R12 to R14, R100, R101). -/

namespace Sys2Proof.Machine

/-! ## Ports moved otherwise than by a decision -/

/-- R63, R94, R95: an event that has moved ports makes their units, and KS migrates. -/
theorem portsMoved {before mid moved : State} (frame : PortsFrame mid moved) (rl : moved.rl = mid.rl) :
    PortsMoved before mid (moved.announce before).migrate := by
  have port : ∀ p, (moved.announce before).migrate.port p = moved.port p := fun p => by
    rw [State.port, State.migrate_pc, State.announce_pc, State.port]
  have su : (moved.announce before).migrate.su = moved.su := by rw [State.migrate_su, State.announce_su]
  obtain ⟨made, announced, link⟩ := State.announce_rl (before := before) port (by rw [su])
  have keys := State.migrate_keys (moved.announce before)
  have all := frame.trans (State.announce_ports moved before)
  refine ⟨⟨?_, ?_, ?_, ?_, ?_, ?_, ?_, ?_, ?_, ?_⟩, keys.congr ?_, made, ?_, ?_⟩
  · rw [State.migrate_su, all.su]
  · rw [State.migrate_fi, all.fi]
  · rw [State.migrate_sf, all.sf]
  · rw [State.migrate_md, all.md]
  · rw [State.migrate_tm, all.tm]
  · rw [State.migrate_lu, all.lu]
  · rw [State.migrate_pu, all.pu]
  · rw [State.migrate_bq, all.bq]
  · rw [State.migrate_room, all.room]
  · rw [State.migrate_pending, all.pending]
  · rw [State.announce_ks, frame.ks]
  · rw [← rl]
    exact announced
  · rw [State.migrate_rl, link, rl]

/-- An event not tied to a request, from `b`, that moves ports, read from a state with the same ports and list. -/
theorem eventMoved {s b mid : State} {event : State → State} (same : SameList s b) (moved : PortsMoved b mid (event b))
    (list : mid.rl = b.rl) : EventMoved s mid (b.untied event) := by
  obtain ⟨outside, keys, made, announced, link⟩ := moved
  refine ⟨event b, ⟨outside, keys, made, announced.congr same.port same.alert (fun _ => rfl) (fun _ => .inl rfl), link⟩, ?_⟩
  obtain ⟨l, grown⟩ := announced.grows
  have fell := State.untied_fellIn (s := b) (event := event) ⟨l, by rw [link, ← list]; exact grown⟩
  unfold FellIn at fell ⊢
  rw [same.rl]
  exact fell

theorem foldl_rl {f : State → Port → State} (one : ∀ s p, (f s p).rl = s.rl) (ps : List Port) (s : State) :
    (ps.foldl f s).rl = s.rl :=
  List.foldlRecOn (motive := fun t : State => t.rl = s.rl) _ _ rfl fun t ih p _ => (one t p).trans ih

@[simp] theorem State.enterAlert_rl (s : State) (p : Port) : (s.enterAlert p).rl = s.rl := by
  unfold State.enterAlert
  split
  · rfl
  · simp [State.placeActive]

@[simp] theorem State.restream_rl (s : State) (p : Port) : (s.restream p).rl = s.rl := by
  unfold State.restream
  split <;> rfl

theorem State.restreamAlerts_rl (s : State) : s.restreamAlerts.rl = s.rl :=
  foldl_rl (fun t p => by split <;> simp) _ _

/-- `State.untied` reads of its event only what it makes of the present state. -/
theorem State.untied_congr {s : State} {f g : State → State} (same : f s = g s) : s.untied f = s.untied g := by
  unfold State.untied
  rw [same]

/-! ## The start and the moves of an alert (R12, R13, R100) -/

theorem State.startAlert_moved (s : State) (a : Alert) :
    PortsMoved s (s.setAlert (some a)) (s.startAlert a).migrate :=
  portsMoved (PortsFrame.foldl (fun t p => t.enterAlert_ports p) _ _) (foldl_rl State.enterAlert_rl _ _)

theorem State.moveAlert_moved (s : State) (a : Alert) :
    PortsMoved s (s.setAlert (some a)) (s.moveAlert a).migrate :=
  portsMoved (State.restreamAlerts_ports _) (State.restreamAlerts_rl _)

theorem State.startAlert_port (s : State) (a : Alert) (p : Port) :
    (s.startAlert a).migrate.port p = (s.setAlert (some a)).alerted (s.port p) := by
  rw [State.port, State.migrate_pc, State.startAlert, State.announce_pc, ← State.port, State.enterAlerts_port]
  rfl

theorem State.moveAlert_port (s : State) (a : Alert) (p : Port) : (s.moveAlert a).migrate.port p =
    if (s.port p).isAlert then (s.setAlert (some a)).restreamed (s.port p) else s.port p := by
  rw [State.port, State.migrate_pc, State.moveAlert, State.announce_pc, ← State.port, State.restreamAlerts_port]
  rfl

theorem State.startAlert_previews (s : State) (a : Alert) : (s.startAlert a).migrate.pc.previews = s.pc.previews := by
  rw [State.migrate_pc, State.startAlert, State.announce_pc, foldl_previews State.enterAlert_previews]
  rfl

theorem State.moveAlert_previews (s : State) (a : Alert) : (s.moveAlert a).migrate.pc.previews = s.pc.previews := by
  rw [State.migrate_pc, State.moveAlert, State.announce_pc, State.restreamAlerts_previews]
  rfl

/-- R100: what the ports of an alert follow. -/
theorem State.setAlert_resolve (s : State) (a : Alert) (home : Channel) :
    (s.setAlert (some a)).resolve .alert home = s.streamOf a.channel := by
  rw [State.resolve_eq, if_pos rfl]
  rfl

/-- R12, R13: the alert that HOUSE_ALERT orders. -/
def orderedAlert (u : Unit96) (clock : Nat) : Alert :=
  { channel := Fin.ofNat 256 u.body[3].toNat, endTime := min (clock + min u.duration 3600) 4294967295 }

theorem exec_houseAlert {u : Unit96} {s : State} (kind : u.spellsMgmt 10 = true) (lasts : u.duration ≠ 0) (taken : s.Takes u)
    (clock : s.su.clock < 4294967295) :
    exec (.houseAlert u) s = .next (s.closeBurst.untied fun b => b.orderAlert (orderedAlert u s.su.clock)) := by
  have spelled : u.spellsAlert = true := by simp [Unit96.spellsAlert, kind, lasts]
  have run : exec (.houseAlert u) s = .next (s.closeBurst.untied fun b =>
      (b.orderAlert { channel := alertChannel u, endTime := holdDue (b.su.clock + alertSeconds u) }).settleHeld) :=
    managed spelled taken rfl
  have seconds : alertSeconds u = min u.duration 3600 := by
    show max 1 (min u.duration 3600) = _
    omega
  have channel : alertChannel u = Fin.ofNat 256 u.body[3].toNat := by
    rw [alertChannel, u.byte_eq_getElem (by decide)]
    rfl
  rw [run, State.untied_congr (g := fun b => b.orderAlert (orderedAlert u s.su.clock))]
  rw [seconds, channel]
  exact State.settleHeld_below ((s.closeBurst.orderAlert_still _).clock.trans_lt clock)

/-- Settles O35: the three cases of the order (`State.startAlert_moved`, `State.moveAlert_moved`), and every port's record by
`State.startAlert_port` and `State.moveAlert_port`. -/
theorem houseAlertTakesTheScreens : Obligations.HouseAlertTakesTheScreens := by
  unfold Obligations.HouseAlertTakesTheScreens
  intro u s kind lasts taken clock
  have run := exec_houseAlert kind lasts taken clock
  dsimp only
  refine ⟨fun quiet => ?_, fun old active other => ?_, fun old active same => ?_⟩
  · have start : s.closeBurst.orderAlert (orderedAlert u s.su.clock) =
        (s.closeBurst.startAlert (orderedAlert u s.su.clock)).migrate := by
      rw [State.orderAlert, show s.closeBurst.su.alert = none from quiet]
    rw [State.untied_congr (g := fun b => (b.startAlert (orderedAlert u s.su.clock)).migrate) start] at run
    have moved := eventMoved (s := s) (event := fun b => (b.startAlert (orderedAlert u s.su.clock)).migrate) {}
      (s.closeBurst.startAlert_moved _) rfl
    refine ⟨_, run, moved, ?_, fun p => ?_⟩
    · rw [State.untied_pc]
      exact State.startAlert_previews _ _
    · have stream := s.closeBurst.setAlert_resolve (orderedAlert u s.su.clock)
      rw [State.untied_port, State.startAlert_port, show s.closeBurst.port p = s.port p from rfl]
      cases s.port p with
      | off => rfl
      | blanked r home n =>
        simp only [State.alerted, stream home]
        rfl
      | active v home st d n =>
        cases v with
        | alert => exact ⟨st, d, n, rfl⟩
        | playing | preview =>
          simp only [State.alerted, stream home]
          rfl
  · have move : s.closeBurst.orderAlert (orderedAlert u s.su.clock) =
        (s.closeBurst.moveAlert (orderedAlert u s.su.clock)).migrate := by
      rw [State.orderAlert, show s.closeBurst.su.alert = some old from active]
      exact if_neg other
    rw [State.untied_congr (g := fun b => (b.moveAlert (orderedAlert u s.su.clock)).migrate) move] at run
    have moved := eventMoved (s := s) (event := fun b => (b.moveAlert (orderedAlert u s.su.clock)).migrate) {}
      (s.closeBurst.moveAlert_moved _) rfl
    refine ⟨_, run, moved, ?_, fun p => ?_⟩
    · rw [State.untied_pc]
      exact State.moveAlert_previews _ _
    · have stream := s.closeBurst.setAlert_resolve (orderedAlert u s.su.clock)
      rw [State.untied_port, State.moveAlert_port, show s.closeBurst.port p = s.port p from rfl]
      cases s.port p with
      | off => rfl
      | blanked r home n => rfl
      | active v home st d n =>
        cases v with
        | alert =>
          simp only [PortRecord.isAlert, if_true, State.restreamed, stream home]
          rfl
        | playing | preview => rfl
  · have set : s.closeBurst.orderAlert (orderedAlert u s.su.clock) =
        s.closeBurst.setAlert (some (orderedAlert u s.su.clock)) := by
      rw [State.orderAlert, show s.closeBurst.su.alert = some old from active]
      exact if_pos same
    rw [run, State.untied_silent (by rw [set]; rfl) (by rw [set]; rfl), set]
    rfl

/-! ## The end of an alert (R14, R101) -/

theorem PortRecord.isAlert_iff (r : PortRecord) : r.isAlert = true ↔ r.state = .alert := by
  cases r with
  | off | blanked => simp [PortRecord.isAlert, PortRecord.state]
  | active v => cases v <;> simp [PortRecord.isAlert, PortRecord.state]

theorem State.alerts_eq (s : State) : (fun p => if (s.port p).isAlert then (s.port p).home else none) =
    fun p => if (s.port p).state = .alert then (s.port p).home else none := by
  funext p
  simp only [PortRecord.isAlert_iff]

/-- R101: where a port that was in ALERT returns to. -/
theorem returned {s s' t : State} {p : Port} {c : Channel} (decided : EventDecided s { s' with su := { s.su with alert := none } } t
      fun p => if (s.port p).state = .alert then (s.port p).home else none)
    (tm : s'.tm = s.tm) (lu : s'.lu = s.lu) (alerted : (s.port p).state = .alert) (home : (s.port p).home = some c) :
    (t.port p).state ≠ .alert ∧ (t.port p).state ≠ .off ∧ (t.port p).home = some c ∧
      (s.entry c = none → t.port p = .blanked .notEntitled c 500) ∧
      ((t.port p).state = .playing ∨ (t.port p).state = .preview →
        (t.port p).delivery = (s.port p).delivery ∧ ∃ e, s.entry c = some e ∧ e.rating ≤ s.effectiveCeiling p) := by
  obtain ⟨su', -, -, -, tm', lu', -⟩ := decided.outside
  have placed := decided.placed (p := p) (c := c) ((if_pos alerted).trans home)
  have quiet : t.su.alert = none := by rw [su']
  have entry : t.entry c = s.entry c := by rw [State.entry, State.entry, tm', tm]
  have ceiling : t.effectiveCeiling p = s.effectiveCeiling p := by
    rw [State.effectiveCeiling, State.effectiveCeiling, lu', lu]
  obtain ⟨alert, off⟩ := placed.state quiet
  refine ⟨alert, off, placed.home, fun none => ?_, fun shows => ?_⟩
  · rw [placed.absent quiet (entry.trans none), blankedFrom, if_neg]
    cases old : s.port p <;> simp [old, PortRecord.state, PortRecord.reason] at alerted ⊢
  · obtain ⟨delivery, within⟩ := placed.shows shows
    rw [entry, ceiling] at within
    refine ⟨?_, within⟩
    rw [delivery]
    cases old : s.port p <;> simp [old, PortRecord.state, PortRecord.delivery] at alerted ⊢

/-- Settles O36: the stop and the end time end the alert alike (`State.endAlert_decided`), and `returned` says where the
ports go. -/
theorem alertEndsAndPortsReturn : Obligations.AlertEndsAndPortsReturn := by
  unfold Obligations.AlertEndsAndPortsReturn
  intro u s kind stops taken
  have spelled : u.spellsAlertStop = true := by simp [Unit96.spellsAlertStop, kind, stops]
  have stop : exec (.houseAlertStop u) s = .next (if s.su.alert.isSome then s.closeBurst.untied State.endAlert
      else s.closeBurst) := managed spelled taken rfl
  have due : exec .houseAlertEnd s = .next (if s.su.alert.isSome then s.untied State.endAlert else s) := rfl
  dsimp only
  refine ⟨fun quiet => ?_, fun active => ?_⟩
  · rw [stop, due, quiet]
    exact ⟨rfl, rfl⟩
  · rw [if_pos (Option.isSome_iff_ne_none.mpr active)] at stop due
    have closed := eventDecided (s := s) (event := State.endAlert) {} s.closeBurst.endAlert_decided rfl
    have ended := eventDecided (s := s) (event := State.endAlert) {} s.endAlert_decided rfl
    rw [show (fun p => if (s.closeBurst.port p).isAlert then (s.closeBurst.port p).home else none) = _ from s.alerts_eq] at closed
    rw [s.alerts_eq] at ended
    exact ⟨⟨_, stop, closed, fun p c alerted home => returned (s' := { s with md := s.closedMd }) closed rfl rfl alerted home⟩,
      _, due, ended, fun p c alerted home => returned (s' := s) ended rfl rfl alerted home⟩

end Sys2Proof.Machine
end

section
/-! Purchases that end: CANCEL within the grace and the window end (R131, R134, R135). -/

namespace Sys2Proof.Machine

/-! ## A film's port, decided (R83, check 6) -/

section
variable {t : State} {old : PortRecord} {p : Port} {c : Channel}

/-- R83: the channel of a port that was decided into PLAYING may be played. -/
theorem State.PlacedFrom.playing (h : t.PlacedFrom old p c) (plays : (t.port p).state = .playing) :
    t.showable p c (t.mayPlay c) = true := by
  obtain ⟨l, d, decides, placed⟩ := h
  have blank : ∀ r, (blankedFrom old r c).state = .blanked := fun r => by
    obtain ⟨n, same⟩ := blankedFrom_blanked old r c
    rw [same]
    rfl
  rw [placed] at plays
  have entered : d = .playing := by
    cases d with
    | playing => rfl
    | alert =>
      obtain ⟨_, _, _, same⟩ := t.placed_alert old c
      simp [same, PortRecord.state] at plays
    | absent => simp [State.placed, blank] at plays
    | blank r => simp [State.placed, blank] at plays
    | preview => simp [State.placed, PortRecord.state] at plays
  exact (State.tuneDecision_playing (decides.eq_tuneDecision.symm.trans entered)).2

/-- R83, R125: a film that no open purchase holds is not played. -/
theorem State.PlacedFrom.unbought {title : Nat} (h : t.PlacedFrom old p c) (titled : t.titleOn c = some title)
    (free : t.purchase title = none) : (t.port p).state ≠ .playing := by
  intro plays
  have shown := h.playing plays
  unfold State.showable at shown
  unfold State.titleOn at titled
  cases entry : t.entry c with
  | none => simp [entry] at titled
  | some e =>
    cases tier : e.tier <;> simp [entry, tier, Tier.title] at titled
    simp [entry, tier, State.mayPlay, titled, free] at shown

end

/-! ## The end of a purchase -/

/-- R125: a title's entry that is removed holds it no longer. -/
theorem purchase_removed {t : State} {l : List Purchase} {title : Nat}
    (pu : t.pu.purchases = l.filter fun x => x.title != title) : t.purchase title = none := by
  rw [State.purchase, pu, List.find?_eq_none]
  intro x member
  simpa using (List.mem_filter.mp member).2

/-- R134. -/
theorem State.voidPurchase_decided (s : State) (e : Purchase) : PortsDecided s { s with
      su := { s.su with spend := s.su.spend - e.charge }
      pu := { s.pu with purchases := s.pu.purchases.filter fun x => x.title != e.title }
      bq := s.bq.joined fun seq => s.recordOf seq e .void e.charge s.su.clock } (s.voidPurchase e) (s.homesWith e.title) := by
  have voided : ((s.removePurchase e.title).lowerSpend e.charge).bill e .void e.charge s.su.clock = { s with
      su := { s.su with spend := s.su.spend - e.charge }
      pu := { s.pu with purchases := s.pu.purchases.filter fun x => x.title != e.title }
      bq := s.bq.joined fun seq => s.recordOf seq e .void e.charge s.su.clock } := by
    rw [State.bill_eq]
    rfl
  unfold State.voidPurchase
  rw [voided]
  exact State.reevaluateTitle_decided e.title (fun _ => rfl) rfl

/-- R135. -/
theorem State.endWindow_decided (s : State) (e : Purchase) (due : Nat) :
    PortsDecided s (s.closePurchase e due) (s.endWindow e due) (s.homesWith e.title) := by
  unfold State.endWindow
  rw [s.closePurchase_eq]
  exact State.reevaluateTitle_decided e.title (fun _ => rfl) rfl

/-- R131: a port whose home channel carries a title that no purchase holds any longer does not play it. -/
theorem none_plays {s t : State} {title : Nat} (placed : ∀ q c, s.homesWith title q = some c → t.PlacedFrom (s.port q) q c)
    (tm : t.tm = s.tm) (free : t.purchase title = none) (q : Port) (carries : (s.port q).home.bind s.titleOn = some title) :
    (t.port q).state ≠ .playing := by
  obtain ⟨c, home, titled⟩ := Option.bind_eq_some_iff.mp carries
  have own : s.homesWith title q = some c := by rw [State.homesWith, if_pos carries, home]
  have titled' : t.titleOn c = some title := by
    rw [State.titleOn, State.entry, tm]
    exact titled
  exact (placed q c own).unbought titled' free

/-- Settles O40: the event by `State.voidPurchase_decided`, and `none_plays`. -/
theorem cancelVoidsThePurchase : Obligations.CancelVoidsThePurchase := by
  intro u s p c title e spelled room named home titled held grace
  obtain rfl := State.purchase_title held
  have target : s.countRequest.cancelTarget (portField u) = some e := by
    rw [portField_of named]
    show ((s.port p).home.bind s.titleOn).bind s.purchase = some e
    rw [home]
    exact (congrArg (·.bind s.purchase) titled).trans held
  have run := exec_cancel spelled room
  rw [State.requestCancel_some (s := s.countRequest) (portOk_of named) target, if_neg] at run
  swap
  · exact Nat.not_lt.mpr grace
  have decided := decidedAndAnswered (s := s) (mid := { s with
      su := { s.su with spend := s.su.spend - e.charge }
      pu := { s.pu with purchases := s.pu.purchases.filter fun x => x.title != e.title }
      bq := s.bq.joined fun seq => s.recordOf seq e .void e.charge s.su.clock })
    (s.countRequest.voidPurchase_decided e) u .ok 0
  obtain ⟨-, -, -, -, tm, -, pu, -⟩ := decided.1
  exact ⟨_, run, decided, none_plays (fun q c' own => decided.placed own) tm (purchase_removed (congrArg _ pu))⟩

/-- Settles O41: the event by `State.endWindow_decided`, and `none_plays`. -/
theorem windowEndClosesThePurchase : Obligations.WindowEndClosesThePurchase := by
  intro s title
  have run : exec (.purchaseWindowEnd title) s = .next (match s.purchase title with
    | some e => s.untied fun s => s.endWindow e e.windowEnd
    | none => s) := rfl
  refine ⟨fun free => ?_, fun e held => ?_⟩
  · rw [run, free]
  · obtain rfl := State.purchase_title held
    rw [held] at run
    have decided := eventDecided (s := s) (event := fun b => b.endWindow e e.windowEnd) {} (s.endWindow_decided e e.windowEnd)
      (State.closePurchase_rl s e e.windowEnd)
    rw [s.closePurchase_eq] at decided
    obtain ⟨-, -, -, -, tm, -, pu, -⟩ := decided.outside
    exact ⟨_, run, decided, none_plays (fun q c' own => decided.placed own) tm (purchase_removed (congrArg _ pu))⟩

end Sys2Proof.Machine
end

section
/-! BUY: a shared one and an accepted one (R98, R128, R130). -/

namespace Sys2Proof.Machine

/-! ## A film whose purchase is open (R83, check 6) -/

section
variable {t : State} {old : PortRecord} {p : Port} {c : Channel} {e : Service} {title : Nat} {k : PriceCode}

/-- R83, R85: such a film is played in an OCCUPIED room. -/
theorem State.PlacedFrom.bought (h : t.PlacedFrom old p c) (entry : t.entry c = some e) (film : e.tier = .film title k)
    (quiet : t.su.alert = none) (occupied : t.su.occupancy = .occupied) (within : e.rating ≤ t.effectiveCeiling p)
    (held : t.purchase title ≠ none) :
    t.port p = .active .playing c (some (resolveIn t.sf.remap.toList e.stream)) (old.delivery.getD .noSignal) 3000 := by
  obtain ⟨l, d, decides, placed⟩ := h
  unfold State.Decides at decides
  rw [quiet, entry] at decides
  have opened := decides.2.2 (fun shut => shut.1 occupied) (by rwa [State.effectiveCeiling_eq] at within)
  rw [film] at opened
  obtain rfl : d = .playing := opened.1 held
  rw [placed, State.placed, State.streamOf, entry]
  rfl

/-- R97: and never previewed. -/
theorem State.PlacedFrom.not_previewing (h : t.PlacedFrom old p c) (titled : t.titleOn c = some title)
    (held : t.purchase title ≠ none) : t.previewing p = none := by
  obtain ⟨l, d, decides, placed⟩ := h
  have blank : ∀ r, t.port p = blankedFrom old r c → t.previewing p = none := fun r port => by
    obtain ⟨n, same⟩ := blankedFrom_blanked old r c
    rw [State.previewing, port, same]
  cases d with
  | alert =>
    obtain ⟨_, _, _, same⟩ := t.placed_alert old c
    rw [State.previewing, placed, same]
  | absent => exact blank _ placed
  | blank r => exact blank r placed
  | playing => rw [State.previewing, placed]; rfl
  | preview =>
    obtain ⟨-, e, title', k, entry, -, film, -, free⟩ := State.tuneDecision_preview decides.eq_tuneDecision.symm
    have entry : t.entry c = some e := entry
    obtain rfl : title' = title := by simpa [State.titleOn, entry, film, Tier.title] using titled
    exact absurd free held

end

/-- R96: with no port that comes to PREVIEW the Preview List stays. -/
theorem Decided.previews {before s t : State} {target : Port → Option Channel}
    (shut : ∀ p, target p ≠ none → t.previewing p = none) :
    ∀ (order : List Port) (l : List Preview), Decided before s t target order l → t.pc.previews = l
  | [], l, h => h
  | p :: rest, l, h => by
    unfold Decided at h
    split at h
    · exact Decided.previews shut rest l h.2
    · next c moved =>
      have shut' := shut p (by rw [moved]; exact Option.some_ne_none c)
      have kept : listAfter s t rest p l = l := by rw [listAfter, shut']
      exact kept ▸ Decided.previews shut rest _ h.2

/-! ## A shared BUY (R128) -/

/-- R127, R128: what lets a BUY find the open purchase. -/
theorem State.buyRefusal_shared {s : State} {p : Port} {c : Channel} {e : Service} {title : Nat} {k : PriceCode}
    (entry : s.entry c = some e) (film : e.tier = .film title k) (quiet : s.su.alert = none)
    (occupied : s.su.occupancy = .occupied) (within : e.rating ≤ s.effectiveCeiling p) (held : s.purchase title ≠ none) :
    s.buyRefusal p c = some .shared := by
  rw [State.buyRefusal_film quiet entry occupied film, if_neg (Nat.not_lt.mpr within),
    if_pos (Option.isSome_iff_ne_none.mpr held)]

theorem channelField_eq (u : Unit96) : channelField u = Fin.ofNat 256 (u.word16 1) := rfl

/-- Settles O38: the tune by `State.tunePort_decided`, the port by `State.PlacedFrom.bought` and the Preview List by
`Decided.previews`. -/
theorem sharedBuyCostsNothing : Obligations.SharedBuyCostsNothing := by
  intro u s p e title k spelled room named channel entry film quiet occupied within held
  have run := exec_buy spelled room
  rw [State.requestBuy_shared (s := s.countRequest) (portAndChannelOk named channel), portField_of named, channelField_eq] at run
  swap
  · rw [portField_of named, channelField_eq]
    exact State.buyRefusal_shared (s := s.countRequest) entry film quiet occupied within held
  have decided := decidedAndAnswered (s := s) (mid := s) (s.countRequest.tunePort_decided
    (State.tuneDecision_present (s := s.countRequest) entry p)) u .shared 0
  generalize (((s.countRequest.tunePort p (Fin.ofNat 256 (u.word16 1))).announce s.countRequest).migrate.answer u .shared 0) = t
    at run decided
  have placed := decided.placed (p := p) (if_pos rfl)
  refine ⟨t, run, decided, ?_⟩
  obtain ⟨⟨su, -, sf, -, tm, lu, pu, -⟩, -, ⟨order, -, ran⟩, -⟩ := decided
  have entry' : t.entry (Fin.ofNat 256 (u.word16 1)) = some e := by rw [State.entry, tm]; exact entry
  have held' : t.purchase title ≠ none := by rw [State.purchase, pu]; exact held
  refine ⟨Decided.previews (fun q moved => ?_) order _ ran, ?_⟩
  · obtain rfl : q = p := by
      by_contra other
      exact moved (if_neg other)
    exact placed.not_previewing (title := title) (by rw [State.titleOn, entry', Option.bind_some, film]; rfl) held'
  · rw [← sf]
    exact placed.bought entry' film (su ▸ quiet) (su ▸ occupied) (by rw [State.effectiveCeiling, lu]; exact within) held'

/-! ## An accepted BUY (R98, R130) -/

/-- R98: the Preview List after a title's preview is taken up. -/
def State.takenUp (s : State) (title length : Nat) : List Preview :=
  match s.previewRecord title with
  | some _ => s.pc.previews.map fun r =>
      if r.title = title then { r with seconds := max r.seconds length, bought := true } else r
  | none => joinedList s.isPreviewed s.pc.previews { title := title, seconds := length, bought := true }

theorem State.takeUpPreview_eq (s : State) (title length : Nat) :
    s.takeUpPreview title length = { s with pc := { s.pc with previews := s.takenUp title length } } := by
  unfold State.takeUpPreview State.takenUp
  cases s.previewRecord title with
  | none => rw [← State.joinPreview_previews]; rfl
  | some r => rfl

theorem joinedList_find {previewed : Nat → Bool} {l : List Preview} {r : Preview} (fresh : l.find? (·.title == r.title) = none) :
    (joinedList previewed l r).find? (·.title == r.title) = some r := by
  have kept : (if l.length < 8 then l else l.eraseP fun x => !previewed x.title).find? (·.title == r.title) = none := by
    rw [List.find?_eq_none] at fresh ⊢
    intro x member
    refine fresh x ?_
    split at member
    · exact member
    · exact List.mem_of_mem_eraseP member
  rw [joinedList, List.find?_append, kept]
  simp

theorem takenUp_find {l : List Preview} {title length : Nat} {r : Preview} (held : l.find? (·.title == title) = some r) :
    (l.map fun r => if r.title = title then { r with seconds := max r.seconds length, bought := true } else r).find?
      (·.title == title) = some { title := title, seconds := max r.seconds length, bought := true } := by
  induction l with
  | nil => cases held
  | cons x l ih =>
    by_cases own : x.title = title
    · rw [List.find?_cons_of_pos (by simpa using own)] at held
      obtain rfl := Option.some.inj held
      rw [List.map_cons, if_pos own, List.find?_cons_of_pos (by simpa using own), own]
    · rw [List.find?_cons_of_neg (by simpa using own)] at held
      rw [List.map_cons, if_neg own, List.find?_cons_of_neg (by simpa using own)]
      exact ih held

/-- R98: the title's record after its preview is taken up. -/
theorem State.takenUp_record (s : State) (title length : Nat) :
    (s.takenUp title length).find? (·.title == title) = some { title := title, bought := true
                                                               seconds := max (((s.previewRecord title).map (·.seconds)).getD 0) length } := by
  unfold State.takenUp
  cases record : s.previewRecord title with
  | none =>
    have fresh := joinedList_find (previewed := s.isPreviewed) (l := s.pc.previews)
      (r := { title := title, seconds := length, bought := true }) record
    simpa using fresh
  | some r => exact takenUp_find record

/-- R130: what an accepted BUY writes before the ports are decided. -/
def State.withPurchase (s : State) (e : Purchase) (length : Nat) : State := { s with
  pc := { s.pc with previews := s.takenUp e.title length }
  su := { s.su with spend := s.su.spend + e.charge }
  pu := {
    purchases := s.pu.purchases ++ [e]
    silentCount := if s.su.silent then s.pu.silentCount + 1 else s.pu.silentCount }
  bq := s.bq.joined fun seq => s.recordOf seq e .purchase e.charge s.su.clock }

theorem State.billBuy_eq (s : State) (e : Purchase) : s.billBuy e = { s with
    su := { s.su with spend := s.su.spend + e.charge }
    pu := { s.pu with purchases := s.pu.purchases ++ [e] }
    bq := s.bq.joined fun seq => s.recordOf seq e .purchase e.charge s.su.clock } := by
  unfold State.billBuy
  rw [State.bill_eq]
  rfl

theorem State.recordBuy_withPurchase (s : State) (e : Purchase) (length : Nat) :
    s.recordBuy e length = s.withPurchase e length := by
  rw [State.recordBuy_eq, State.takeUpPreview_eq, State.billBuy_eq]
  unfold State.withPurchase
  split
  · rfl
  · rfl

end Sys2Proof.Machine
end

section
/-! An accepted BUY (R98, R130). -/

namespace Sys2Proof.Machine

/-- R127, R129: what a BUY that is accepted has passed. -/
theorem State.buyRefusal_passes {s : State} {p : Port} {c : Channel} {e : Service} {title : Nat} {k : PriceCode}
    {entry : PriceEntry} (found : s.entry c = some e) (film : e.tier = .film title k) (price : s.price k = some entry)
    (quiet : s.su.alert = none) (occupied : s.su.occupancy = .occupied) (within : e.rating ≤ s.effectiveCeiling p)
    (free : s.purchase title = none) (hold : s.bq.hold = false) (room : s.pu.purchases.length < 8)
    (silent : s.su.silent = false ∨ s.pu.silentCount < 2) (cap : s.su.spend + entry.charge s.su.clock ≤ s.su.cap) :
    s.buyRefusal p c = none := by
  have admits : ¬ (s.su.silent && decide (silentBuyMax ≤ s.pu.silentCount)) = true := by
    simp only [Bool.and_eq_true, decide_eq_true_eq, silentBuyMax, not_and, Nat.not_le]
    exact fun on => silent.resolve_left (by simp [on])
  rw [State.buyRefusal_film quiet found occupied film, if_neg (Nat.not_lt.mpr within), if_neg (by simp [free]),
    if_neg (by simp [hold]), if_neg (Nat.not_le.mpr room), if_neg admits, price]
  exact if_pos (decide_eq_true cap)

section
variable {s : State} {e : Purchase} {length : Nat} {p : Port} {c : Channel}

theorem State.withPurchase_purchase : (s.withPurchase e length).purchase e.title ≠ none := by
  rw [State.purchase, Ne, List.find?_eq_none]
  exact fun missing => missing e (List.mem_append_right _ List.mem_cons_self) (by simp)

/-- R130: the ports of an accepted BUY. -/
theorem State.withPurchase_decided {x : Service} {title : Nat} (found : s.entry c = some x) :
    PortsDecided s (s.withPurchase e length) ((s.withPurchase e length).playTitle s p c title)
      fun q => if q = p then some c else s.homesWith title q :=
  State.playTitle_decided (fun _ => rfl) rfl (State.tuneDecision_present (s := s.withPurchase e length) (e := x) found p)

end

/-- R96, R130: no port that an accepted BUY decides comes to PREVIEW, for each is on the title bought. -/
theorem boughtPreviews {s t : State} {p : Port} {c : Channel} {title : Nat} {target : Port → Option Channel}
    (targets : target = fun q => if q = p then some c else s.homesWith title q)
    (placed : ∀ q c', target q = some c' → t.PlacedFrom (s.port q) q c') (titled : s.titleOn c = some title) (tm : t.tm = s.tm)
    (held : t.purchase title ≠ none) (q : Port) (moved : target q ≠ none) : t.previewing q = none := by
  obtain ⟨c', own⟩ := Option.ne_none_iff_exists'.mp moved
  refine (placed q c' own).not_previewing (title := title) ?_ held
  rw [State.titleOn, State.entry, tm]
  rw [targets] at own
  dsimp only at own
  split at own
  · obtain rfl := Option.some.inj own
    exact titled
  · rw [State.homesWith] at own
    split at own
    · next carries =>
      rw [own] at carries
      exact carries
    · cases own

/-- R98, R130: what an accepted BUY leaves in the Preview List and at its port. -/
theorem boughtLeaves {s t : State} {p : Port} {c : Channel} {x : Service} {k : PriceCode} {e : Purchase} {length : Nat}
    {reply : LinkUnit} (found : s.entry c = some x) (film : x.tier = .film e.title k) (quiet : s.su.alert = none)
    (occupied : s.su.occupancy = .occupied) (within : x.rating ≤ s.effectiveCeiling p)
    (decided : PortsDecidedAndAnswered s (s.withPurchase e length) t
      (fun q => if q = p then some c else s.homesWith e.title q) reply) :
    t.previewRecord e.title = some {
      title := e.title, bought := true, seconds := max (((s.previewRecord e.title).map (·.seconds)).getD 0) length } ∧
    t.port p = .active .playing c (some (resolveIn s.sf.remap.toList x.stream)) ((s.port p).delivery.getD .noSignal) 3000 := by
  have placed := fun q c' own => decided.placed (p := q) (c := c') own
  obtain ⟨⟨su, -, sf, -, tm, lu, pu, -⟩, -, ⟨order, -, ran⟩, -⟩ := decided
  have titled : s.titleOn c = some e.title := by rw [State.titleOn, found, Option.bind_some, film]; rfl
  have entry : t.entry c = some x := by rw [State.entry, tm]; exact found
  have held : t.purchase e.title ≠ none := by
    rw [State.purchase, pu]
    exact State.withPurchase_purchase (s := s) (length := length)
  have previews := Decided.previews (boughtPreviews rfl placed titled tm held) order _ ran
  refine ⟨?_, ?_⟩
  · rw [State.previewRecord, previews]
    exact s.takenUp_record e.title length
  · have quiet' : t.su.alert = none := by rw [su]; exact quiet
    have occupied' : t.su.occupancy = .occupied := by rw [su]; exact occupied
    have within' : x.rating ≤ t.effectiveCeiling p := by rw [State.effectiveCeiling, lu]; exact within
    rw [(placed p c (if_pos rfl)).bought entry film quiet' occupied' within' held, sf]
    rfl

/-- Settles O39: what the BUY writes by `State.recordBuy_withPurchase`, the ports by `State.withPurchase_decided`, and what
it leaves by `boughtLeaves`. -/
theorem acceptedBuyOpensThePurchase : Obligations.AcceptedBuyOpensThePurchase := by
  intro u s p e title k entry spelled room named channel found film price quiet occupied within free hold few silent cap clock
  have passes := State.buyRefusal_passes (s := s.countRequest) (p := p) found film price quiet occupied within free hold few
    silent cap
  have own := State.withPurchase_decided (s := s.countRequest) (e := s.countRequest.newPurchase title k e.rating entry)
    (length := entry.preview) (p := p) (title := title) found
  have run := exec_buy spelled room
  rw [State.requestBuy_accepted (s := s.countRequest) (portAndChannelOk named channel), portField_of named, channelField_eq,
    State.acceptBuy_eq (s := s.countRequest) found film price, State.recordBuy_withPurchase, State.atTail_settleHeld_below] at run
  rotate_left
  · obtain ⟨⟨su, -⟩, -⟩ := own
    rw [State.answer_eq, State.send_su, su]
    exact clock
  · rw [portField_of named, channelField_eq]
    exact passes
  have decided := decidedAndAnswered (s := s)
    (mid := s.withPurchase (s.newPurchase title k e.rating entry) entry.preview) own u .ok 0
  exact ⟨_, run, decided, boughtLeaves (e := s.newPurchase title k e.rating entry) found film quiet occupied within decided⟩

end Sys2Proof.Machine
end

section
/-! TUNE (R83 to R86, R96). -/

namespace Sys2Proof.Machine

/-! ## An event that moves nothing -/

/-- R94: with no field changed no unit is made. -/
theorem State.unitsFor_self (s : State) (p : Port) : s.unitsFor s p = [] := by
  unfold State.unitsFor
  rw [if_pos rfl]
  cases s.port p with
  | off | active => rfl
  | blanked r c n => exact if_pos ⟨rfl, rfl⟩

theorem State.announce_self (s : State) : s.announce s = s := by
  have none : ∀ (l : List Port) (k : Choices),
      l.foldl (fun (x : List LinkUnit × Choices) p => interleave (s.unitsFor s p) x.1 x.2) ([], k) = ([], k) := by
    intro l
    induction l with
    | nil => exact fun _ => rfl
    | cons p l ih => intro k; rw [List.foldl_cons, s.unitsFor_self p]; exact ih k
  unfold State.announce State.eventUnits
  rw [none]
  rfl

/-- R63: under the slot's law no migration is due. -/
theorem State.migrate_settled {s : State} (law : s.SlotLaw) : s.migrate = s := by
  unfold State.migrate
  split
  · rfl
  · next e slot =>
    have way := fun w => s.slotLaw_iff.mp law e slot w
    have full : (s.ks.sets[setOf e.group]).freeWay = none := by
      obtain ⟨x, there0, -⟩ := way .way0
      obtain ⟨y, there1, -⟩ := way .way1
      have there0 : (s.ks.sets[setOf e.group]).way0 = some x := there0
      have there1 : (s.ks.sets[setOf e.group]).way1 = some y := there1
      unfold KeySet.freeWay
      rw [there0, there1]
      rfl
    have used : s.victim (s.ks.sets[setOf e.group]) = none := by
      cases victim : s.victim (s.ks.sets[setOf e.group]) with
      | none => rfl
      | some w =>
        obtain ⟨x, there, unused⟩ := State.victim_some full victim
        obtain ⟨y, there', pinned⟩ := way w
        have there' : (s.ks.sets[setOf e.group]).way w = some y := there'
        rw [there] at there'
        obtain rfl := Option.some.inj there'
        rw [unused] at pinned
        cases pinned
    dsimp only
    rw [full, used]

/-! ## TUNE -/

theorem exec_tune {u : Unit96} {s : State} {p : Port} (spelled : u.spellsRequest 1 = true) (room : s.rl.unanswered < 8)
    (named : u.header[1].toNat = p.val) (channel : u.word16 1 ≤ 255) :
    exec (.tune u) s = .next (((s.countRequest.tunePort p (Fin.ofNat 256 (u.word16 1))).announce s.countRequest).migrate.answer u
      (s.countRequest.tuneReply p (Fin.ofNat 256 (u.word16 1))) 0) := by
  have run : exec (.tune u) s = .next (s.countRequest.requestTune u) := received _ spelled room
  rw [run, State.requestTune, State.checked_pass _ (portAndChannelOk named channel), portField_of named, channelField_eq]

theorem State.tuneDecision_absent_iff (s : State) (p : Port) (c : Channel) :
    s.tuneDecision p c = .absent ↔ s.su.alert = none ∧ s.entry c = none := by
  constructor
  · intro absent
    refine ⟨?_, ?_⟩
    · cases alert : s.su.alert with
      | none => rfl
      | some a =>
        rw [(s.tuneDecision_alert_iff p c).mpr (by rw [alert]; rfl)] at absent
        cases absent
    · cases entry : s.entry c with
      | none => rfl
      | some e => exact absurd absent (State.tuneDecision_present entry p)
  · rintro ⟨quiet, entry⟩
    simp [State.tuneDecision, quiet, entry]

/-- R86: the reply of a TUNE of a PRESENT channel, or during an alert. -/
theorem State.tuneReply_eq {s : State} {p : Port} {c : Channel} (present : s.tuneDecision p c ≠ .absent) :
    s.tuneReply p c = if s.su.alert = none then .ok else .alertActive := by
  have alert := s.tuneDecision_alert_iff p c
  unfold State.tuneReply
  cases decision : s.tuneDecision p c with
  | absent => exact absurd decision present
  | alert =>
    rw [if_neg (Option.isSome_iff_ne_none.mp (alert.mp decision))]
  | blank | playing | preview =>
    rw [if_pos]
    rw [← Option.not_isSome_iff_eq_none, ← alert, decision]
    simp

/-- R96: whether a record's title counts as previewed while port p comes to PREVIEW for another title. -/
theorem State.isPreviewed_setPort {s : State} {p : Port} {r : PortRecord} {x : Nat}
    (other : (s.setPort p r).previewing p ≠ some x) :
    (s.setPort p r).isPreviewed x = true ↔ ∃ q, q ≠ p ∧ (s.port q).state = .preview ∧
      (s.port q).home.bind s.titleOn = some x := by
  simp only [State.isPreviewed, List.any_eq_true, beq_iff_eq]
  constructor
  · rintro ⟨q, -, shown⟩
    have apart : q ≠ p := by
      rintro rfl
      exact other shown
    have port : (s.setPort p r).port q = s.port q := s.setPort_port_other r apart
    rw [State.previewing_congr port rfl, State.previewing_iff] at shown
    exact ⟨q, apart, shown⟩
  · rintro ⟨q, apart, shown⟩
    have port : (s.setPort p r).port q = s.port q := s.setPort_port_other r apart
    exact ⟨q, mem_allPorts q, by rw [State.previewing_congr port rfl, State.previewing_iff]; exact shown⟩

/-- R96: what makes room in a full Preview List is its oldest record that is not previewed. -/
theorem joinedList_full {previewed : Nat → Bool} {l before after : List Preview} {x r : Preview} (full : 8 ≤ l.length)
    (parts : l = before ++ x :: after) (kept : ∀ y ∈ before, previewed y.title = true) (dropped : ¬ previewed x.title = true) :
    joinedList previewed l r = before ++ after ++ [r] := by
  rw [joinedList, if_neg (Nat.not_lt.mpr full), parts, List.eraseP_append_right _ (by simpa using kept),
    List.eraseP_cons_of_pos (by simpa using dropped)]

section
variable {s : State} {p : Port} {c : Channel} {title : Nat}

theorem State.previewRecord_none_iff : s.previewRecord title = none ↔ s.pc.previews.any (·.title == title) = false := by
  rw [State.previewRecord, List.find?_eq_none, Bool.eq_false_iff, Ne, List.any_eq_true, not_exists]
  simp only [not_and]

/-- R85, R96: the Preview List after a port has come to PREVIEW. -/
theorem State.entersPreview (titled : s.titleOn c = some title) {t : State}
    (entered : t = s.setPort p (s.activeRecord p .preview c)) :
    (t.startPreview c).pc.previews = (if s.pc.previews.any (·.title == title) then s.pc.previews
      else joinedList t.isPreviewed s.pc.previews { title := title, seconds := 0, bought := false }) ∧
    t.previewing p = some title := by
  subst entered
  refine ⟨?_, ?_⟩
  · rw [State.startPreview_previews, show (s.setPort p (s.activeRecord p .preview c)).titleOn c = some title from titled]
    rfl
  · rw [State.previewing, State.setPort_port_self, (s.activeRecord_eq p c).2.2]
    exact titled

/-- R96: the Preview List after a TUNE into PREVIEW. -/
theorem previewsAfterTune (decision : s.tuneDecision p c = .preview) {previews : List Preview}
    (list : previews = ((s.setPort p (s.activeRecord p .preview c)).startPreview c).pc.previews) :
    ∃ title, s.titleOn c = some title ∧
      (s.previewRecord title ≠ none → previews = s.pc.previews) ∧
      (s.previewRecord title = none → s.pc.previews.length < 8 →
        previews = s.pc.previews ++ [{ title := title, seconds := 0, bought := false }]) ∧
      (s.previewRecord title = none → 8 ≤ s.pc.previews.length → ∀ before x after,
        s.pc.previews = before ++ x :: after →
        (∀ y ∈ before, ∃ q, q ≠ p ∧ (s.port q).state = .preview ∧ (s.port q).home.bind s.titleOn = some y.title) →
        (¬ ∃ q, q ≠ p ∧ (s.port q).state = .preview ∧ (s.port q).home.bind s.titleOn = some x.title) →
        previews = before ++ after ++ [{ title := title, seconds := 0, bought := false }]) := by
  obtain ⟨-, e, title, k, entry, -, film, -⟩ := State.tuneDecision_preview decision
  have titled : s.titleOn c = some title := by rw [State.titleOn, entry, Option.bind_some, film]; rfl
  obtain ⟨after, shown⟩ := State.entersPreview (p := p) titled rfl
  rw [after] at list
  refine ⟨title, titled, fun had => ?_, fun fresh room => ?_, fun fresh full before x rest parts kept dropped => ?_⟩
  · rw [list, if_pos (by rwa [Ne, State.previewRecord_none_iff, Bool.not_eq_false] at had)]
  · rw [list, if_neg (by rw [State.previewRecord_none_iff.mp fresh]; exact Bool.false_ne_true), joinedList, if_pos room]
  · have other : ∀ y ∈ s.pc.previews,
        (s.setPort p (s.activeRecord p .preview c)).previewing p ≠ some y.title := fun y member same => by
      rw [shown] at same
      have none := List.any_eq_false.mp (State.previewRecord_none_iff.mp fresh) y member
      exact none (beq_iff_eq.mpr (Option.some.inj same).symm)
    rw [list, if_neg (by rw [State.previewRecord_none_iff.mp fresh]; exact Bool.false_ne_true)]
    refine joinedList_full full parts (fun y member => ?_) ?_
    · exact (State.isPreviewed_setPort (other y (by rw [parts]; exact List.mem_append_left _ member))).mpr (kept y member)
    · rw [State.isPreviewed_setPort (other x (by rw [parts]; exact List.mem_append_right _ List.mem_cons_self))]
      exact dropped

end

/-- Settles O48: a PRESENT channel by `State.tunePort_decided`, the port by `State.decidePort_port` and the Preview List by
`previewsAfterTune`. -/
theorem tuneFollowsTheDecision : Obligations.TuneFollowsTheDecision := by
  intro u s p spelled room named channel
  have run := exec_tune spelled room named channel
  dsimp only
  refine ⟨fun quiet entry law => ?_, fun found => ?_⟩
  · have absent := (s.countRequest.tuneDecision_absent_iff p _).mpr ⟨quiet, entry⟩
    have law : s.countRequest.SlotLaw := law
    rw [run, State.tunePort_absent absent, State.announce_self, State.migrate_settled law, State.tuneReply, absent,
      State.countRequest_answer]
  · have present : s.countRequest.tuneDecision p (Fin.ofNat 256 (u.word16 1)) ≠ .absent := fun absent => by
      obtain ⟨quiet, entry⟩ := (s.countRequest.tuneDecision_absent_iff p _).mp absent
      exact found.elim (· quiet) (· entry)
    have decided := decidedAndAnswered (s := s) (mid := s) (s.countRequest.tunePort_decided present) u
      (if s.countRequest.su.alert = none then .ok else .alertActive) 0
    rw [State.tuneReply_eq present] at run
    have pc : (((s.countRequest.tunePort p (Fin.ofNat 256 (u.word16 1))).announce s.countRequest).migrate.answer u
        (if s.countRequest.su.alert = none then .ok else .alertActive) 0).pc =
        (s.countRequest.decidePort p (Fin.ofNat 256 (u.word16 1)) (s.countRequest.tuneDecision p (Fin.ofNat 256 (u.word16 1)))).pc := by
      rw [State.answer_eq, State.send_pc, State.migrate_pc, State.announce_pc, State.tunePort_eq p present]
    have port := s.countRequest.decidePort_port p (Fin.ofNat 256 (u.word16 1))
      (s.countRequest.tuneDecision p (Fin.ofNat 256 (u.word16 1))) p
    rw [if_pos rfl, State.port, ← pc] at port
    have previews := s.countRequest.decidePort_previews p (Fin.ofNat 256 (u.word16 1))
      (s.countRequest.tuneDecision p (Fin.ofNat 256 (u.word16 1)))
    rw [← pc] at previews
    refine ⟨_, _, run, s.countRequest.tuneDecision_decides p _, port, decided, fun other => ?_, fun shown => ?_⟩
    · rw [previews, if_neg other]
      rfl
    · rw [if_pos shown] at previews
      exact previewsAfterTune (s := s.countRequest) shown previews

end Sys2Proof.Machine
end

section
/-! The resets of the room: ROOM_RESET and LINK_RESET (R16, R70, R103, R104, R169). -/

namespace Sys2Proof.Machine

/-! ## Every port OFF (R94, R103) -/

/-- What an event on the ports moves. -/
theorem PortsFrame.eq {s t : State} (h : PortsFrame s t) : t = { s with pc := t.pc, rl := t.rl, choices := t.choices } := by
  rw [← h.su, ← h.fi, ← h.sf, ← h.md, ← h.tm, ← h.ks, ← h.lu, ← h.pu, ← h.bq, ← h.room, ← h.pending]

theorem SameOutsidePorts.eq {s t : State} (h : SameOutsidePorts s t) :
    t = { s with ks := t.ks, pc := t.pc, rl := t.rl, choices := t.choices } := by
  obtain ⟨su, fi, sf, md, tm, lu, pu, bq, room, pending⟩ := h
  rw [← su, ← fi, ← sf, ← md, ← tm, ← lu, ← pu, ← bq, ← room, ← pending]

/-- R94: a port's notice in OFF. -/
def offNotice (p : Port) : LinkUnit :=
  .notice p { state := .off, reason := none, home := none, shown := none, delivery := none }

/-- R94: a list of OFF notices, one for each port that was not OFF in `s`. -/
def OffNotices (s : State) (l : List LinkUnit) : Prop :=
  ∃ ps : List Port, ps.Nodup ∧ (∀ p, p ∈ ps ↔ s.port p ≠ .off) ∧ l = ps.map offNotice

theorem offNotices_joined (ps : List Port) (list : List LinkUnit) :
    (ps.map offNotice).foldl joinedTo list = list ++ ps.map offNotice := by
  induction ps generalizing list with
  | nil => simp
  | cons p ps ih => rw [List.map_cons, List.foldl_cons, ih, joinedTo.eq_def]; simp [offNotice]

theorem offNotices_filter (ps : List Port) (p : Port) :
    (ps.map offNotice).filter (fun u => u.portOf == some p) = (ps.filter (· == p)).map offNotice := by
  rw [List.filter_map]
  rfl

theorem all_offNotices {units : List LinkUnit} (own : ∀ u ∈ units, ∃ p, u = offNotice p) : ∃ ps : List Port, units = ps.map offNotice := by
  induction units with
  | nil => exact ⟨[], rfl⟩
  | cons u units ih =>
    obtain ⟨p, rfl⟩ := own u List.mem_cons_self
    obtain ⟨ps, rfl⟩ := ih fun u member => own u (List.mem_cons_of_mem _ member)
    exact ⟨p :: ps, rfl⟩

/-- R94, R95: the units of an event that turns every port OFF. -/
theorem Announced.off {before t : State} {list made : List LinkUnit} (h : Announced before t list made)
    (off : ∀ p, t.port p = .off) : ∃ l, OffNotices before l ∧ made = list ++ l := by
  obtain ⟨units, own, ports, rfl⟩ := h
  have notices : ∀ p, units.filter (fun u => u.portOf == some p) = if before.port p = .off then [] else [offNotice p] :=
    fun p => (own p).trans (announced_off (off p))
  obtain ⟨ps, rfl⟩ := all_offNotices (units := units) fun u member => by
    obtain ⟨p, port⟩ := Option.ne_none_iff_exists'.mp (ports u member)
    have mine : u ∈ units.filter (fun u => u.portOf == some p) := List.mem_filter.mpr ⟨member, by simp [port]⟩
    rw [notices p] at mine
    split at mine
    · cases mine
    · exact ⟨p, List.mem_singleton.mp mine⟩
  have shares : ∀ p, (ps.filter (· == p)).length = if before.port p = .off then 0 else 1 := fun p => by
    rw [← List.length_map (f := offNotice), ← offNotices_filter, notices p]
    split <;> rfl
  refine ⟨_, ⟨ps, List.nodup_iff_count_le_one.mpr fun p => ?_, fun p => ?_, rfl⟩, offNotices_joined ps list⟩
  · rw [List.count_eq_length_filter, shares p]
    split <;> omega
  · have share := shares p
    rw [← List.count_pos_iff, List.count_eq_length_filter, share]
    split
    · next was => simp [was]
    · next was => simp [was]

/-- R103, R104: the link after every port has been turned OFF. -/
theorem State.turnAllOff_rl {s before : State} : ∃ l, OffNotices before l ∧
    (s.turnAllOff before).rl = { s.rl with transmit := s.rl.transmit ++ l } := by
  obtain ⟨made, units, link⟩ := State.announce_rl (before := before)
    (s := { s with pc := { s.pc with ports := Vector.replicate 4 .off } }) (fun _ => rfl) rfl
  obtain ⟨l, notices, rfl⟩ := units.off fun p => by simp [State.port]
  exact ⟨l, notices, link⟩

theorem State.turnAllOff_pc (s before : State) :
    (s.turnAllOff before).pc = { s.pc with ports := Vector.replicate 4 .off } := by
  rw [State.turnAllOff, State.announce_pc]

/-! ## ROOM_RESET (R16, R70, R103) -/

theorem State.resetRoom_eq (s : State) : ∃ l choices, OffNotices s l ∧ s.resetRoom = { s with
    su := { s.su with alert := none }
    md := s.closedMd
    ks := s.ks.clear
    pc := { s.pc with ports := Vector.replicate 4 .off }
    rl := { s.rl with transmit := s.rl.transmit ++ l }
    choices := choices } := by
  obtain ⟨l, notices, link⟩ := State.turnAllOff_rl (s := s.setAlert none) (before := s)
  refine ⟨l, ((s.setAlert none).turnAllOff s).choices, notices, ?_⟩
  have turned := ((s.setAlert none).turnAllOff_ports s).eq
  rw [link, State.turnAllOff_pc] at turned
  unfold State.resetRoom
  rw [turned]
  rfl

/-- R103: ROOM_RESET's units join behind all that waits. -/
theorem exec_roomReset {u : Unit96} {s : State} (kind : u.spellsMgmt 13 = true) (taken : s.Takes u) :
    ∃ l choices, exec (.roomReset u) s = .next { s with
      su := { s.su with alert := none }
      md := s.closedMd
      ks := s.ks.clear
      pc := { s.pc with ports := Vector.replicate 4 .off }
      rl := { s.rl with
        transmit := s.rl.transmit ++ l
        ahead := if l = [] then s.rl.ahead else (s.rl.transmit ++ l).length }
      choices := choices } ∧ OffNotices s l := by
  have run : exec (.roomReset u) s = .next (s.closeBurst.atTail State.resetRoom) := managed kind taken rfl
  obtain ⟨l, choices, notices, reset⟩ := s.closeBurst.resetRoom_eq
  have tail := State.atTail_rl (s := s.closeBurst) (event := State.resetRoom) (l := l) (by rw [reset])
  refine ⟨l, choices, ?_, notices⟩
  rw [run]
  congr 1
  have rest : s.closeBurst.atTail State.resetRoom =
      { s.closeBurst.resetRoom with rl := (s.closeBurst.atTail State.resetRoom).rl } := rfl
  rw [rest, tail, reset]
  rfl

/-! ## LINK_RESET (R104, R169) -/

/-- An entry of a listing. -/
def LinkUnit.isEntry : LinkUnit → Bool
  | .listEntry _ => true
  | _ => false

theorem abandonListings_keeps {u : LinkUnit} (entry : u.isEntry = false) (reply : u.isReply = false) (l : List LinkUnit)
    (n : Nat) : abandonListings n (u :: l) = u :: abandonListings n l := by
  cases u with
  | listEntry => cases entry
  | reply => cases reply
  | programme | blank | notice => rfl

/-- R169: a listing abandoned: its entries that wait are dropped, and counted until its reply. -/
theorem abandonListings_listing (rest : List LinkUnit) : ∀ (l : List LinkUnit) (n : Nat), (∀ r, .reply r ∈ l → r.kind ≠ 9) →
    abandonListings n (l ++ rest) = l.filter (fun y => !y.isEntry) ++ abandonListings (n + (l.filter LinkUnit.isEntry).length) rest
  | [], n, _ => rfl
  | u :: l, n, plain => by
    have ih := fun n => abandonListings_listing rest l n fun r member => plain r (List.mem_cons_of_mem _ member)
    cases u with
    | listEntry e =>
      rw [List.cons_append, abandonListings, ih, List.filter_cons_of_neg (by simp [LinkUnit.isEntry]),
        List.filter_cons_of_pos (by rfl), List.length_cons, Nat.add_right_comm, Nat.add_assoc]
    | reply r =>
      rw [List.cons_append, abandonListings, if_neg (plain r List.mem_cons_self), ih]
      simp [LinkUnit.isEntry]
    | programme | blank | notice =>
      rw [List.cons_append, abandonListings_keeps rfl rfl, ih]
      simp [LinkUnit.isEntry]

/-- R169: with no listing pending nothing is dropped. -/
theorem abandonListings_plain : ∀ (l : List LinkUnit), (∀ x ∈ l, x.isEntry = false) → abandonListings 0 l = l
  | [], _ => rfl
  | u :: l, plain => by
    have ih := abandonListings_plain l fun x member => plain x (List.mem_cons_of_mem _ member)
    cases u with
    | listEntry e => exact absurd (plain _ List.mem_cons_self) (by simp [LinkUnit.isEntry])
    | reply r =>
      rw [abandonListings, ih]
      split <;> rfl
    | programme | blank | notice => rw [abandonListings_keeps rfl rfl, ih]

/-- R169: several listings, one behind the other, each ending in its reply. -/
theorem abandonListings_all {after : List LinkUnit} (plain : ∀ x ∈ after, x.isEntry = false) :
    ∀ (listings : List (List LinkUnit × Reply)),
      (∀ x ∈ listings, x.2.kind = 9 ∧ ∀ r, .reply r ∈ x.1 → r.kind ≠ 9) →
      abandonListings 0 ((listings.flatMap fun x => x.1 ++ [.reply x.2]) ++ after) =
        (listings.flatMap fun x => x.1.filter (fun y => !y.isEntry) ++
          [.reply { x.2 with detail := x.2.detail - (x.1.filter LinkUnit.isEntry).length }]) ++ after
  | [], _ => abandonListings_plain after plain
  | x :: listings, own => by
    obtain ⟨kind, replies⟩ := own x List.mem_cons_self
    have ih := abandonListings_all plain listings fun y member => own y (List.mem_cons_of_mem _ member)
    rw [List.flatMap_cons, List.append_assoc, List.append_assoc, abandonListings_listing _ _ _ replies, List.singleton_append,
      abandonListings, if_pos kind, ih, Nat.zero_add, List.flatMap_cons]
    simp only [List.append_assoc, List.cons_append, List.nil_append]

theorem abandonListings_length (l : List LinkUnit) (n : Nat) : (abandonListings n l).length ≤ l.length := by
  induction l generalizing n with
  | nil => exact Nat.le_refl _
  | cons u l ih =>
    cases u with
    | listEntry e => exact (ih _).trans (Nat.le_succ _)
    | reply r =>
      rw [abandonListings]
      split <;> exact Nat.succ_le_succ (ih _)
    | programme | blank | notice => exact Nat.succ_le_succ (ih _)

/-- R63: with every port OFF no group is in use, and the arrival slot's entry finds a way. -/
theorem KeysMigrated.emptied {s t : State} (h : KeysMigrated s t) (off : ∀ p, t.port p = .off) : t.ks.slot = none := by
  cases slot : t.ks.slot with
  | none => rfl
  | some e =>
    obtain ⟨x, -, pinned⟩ := t.slotLaw_iff.mp h.slotLaw e slot .way0
    obtain ⟨p, used⟩ := (t.pinned_iff x.group).mp pinned
    rw [State.serviceGroup, State.service, off p] at used
    cases used

/-- R104: every port turned OFF, and the migration. -/
theorem State.turnAllOff_rest (s before : State) : SameOutsidePorts s (s.turnAllOff before).migrate ∧
    KeysMigrated s (s.turnAllOff before).migrate ∧
    (s.turnAllOff before).migrate.pc = { s.pc with ports := Vector.replicate 4 .off } := by
  refine ⟨?_, (s.turnAllOff before).migrate_keys.congr (s.turnAllOff_ports before).ks, ?_⟩
  · simp [SameOutsidePorts]
  · rw [State.migrate_pc, State.turnAllOff_pc]

theorem KeysMigrated.abandon {s t : State} (h : KeysMigrated s t) : KeysMigrated s t.abandon := h.congr_after rfl fun _ => rfl

/-- R104, R169: what LINK_RESET leaves, with the list in the words of the model. -/
theorem exec_linkReset {u : Unit96} {s : State} (spelled : u.spellsRequest 12 = true) (room : s.rl.unanswered < 8) :
    ∃ t l, exec (.linkReset u) s = .next t ∧ OffNotices s l ∧
      t = { s with
        lu := { s.lu with unlocks := Vector.replicate 4 none }
        pc := { s.pc with ports := Vector.replicate 4 .off }
        ks := t.ks
        rl := t.rl
        choices := t.choices } ∧
      KeysMigrated s t ∧ t.rl = { s.rl with
        unanswered := s.rl.unanswered + 1
        transmit := abandonListings 0 (s.rl.transmit ++ l) ++ [replyTo u .ok 0]
        ahead := s.rl.transmit.length + 1 -
          ((s.rl.transmit ++ l).length - (abandonListings 0 (s.rl.transmit ++ l)).length) } := by
  have run : exec (.linkReset u) s = .next (s.countRequest.requestLinkReset u) := received _ spelled room
  obtain ⟨l, notices, link⟩ :=
    State.turnAllOff_rl (s := { s.countRequest with lu := s.countRequest.lu.endUnlocks }) (before := s.countRequest)
  obtain ⟨outside, keys, pc⟩ := State.turnAllOff_rest { s.countRequest with lu := s.countRequest.lu.endUnlocks } s.countRequest
  rw [← State.migrate_rl] at link
  unfold State.requestLinkReset at run
  rw [State.answer_eq] at run
  refine ⟨_, l, run, notices, ?_⟩
  generalize (State.turnAllOff { s.countRequest with lu := s.countRequest.lu.endUnlocks } s.countRequest).migrate = t at link outside keys pc
  refine ⟨?_, ((keys.congr (s := s) rfl).abandon).send _, ?_⟩
  · rw [outside.eq, pc]
    rfl
  · rw [State.send_rl, State.abandon, link]
    rfl

/-- Settles O47: ROOM_RESET by `exec_roomReset`, LINK_RESET by `exec_linkReset`, and its list by `abandonListings_all`. -/
theorem resetsTurnPortsOff : Obligations.ResetsTurnPortsOff := by
  intro u s
  refine ⟨fun kind taken => ?_, fun spelled room => ?_⟩
  · obtain ⟨l, choices, run, notices⟩ := exec_roomReset kind taken
    exact ⟨_, l, run, notices, rfl⟩
  · obtain ⟨t, l, run, notices, rest, keys, link⟩ := exec_linkReset spelled room
    have off : ∀ p, t.port p = .off := fun p => by
      rw [rest]
      simp [State.port]
    refine ⟨t, l, run, notices, rest, keys, keys.emptied off, by rw [link], fun listings after parts own plain => ?_⟩
    have plain' : ∀ x ∈ after ++ l, x.isEntry = false := fun x member => by
      obtain old | new := List.mem_append.mp member
      · exact plain x old
      · obtain ⟨ps, -, -, rfl⟩ := notices
        obtain ⟨p, -, rfl⟩ := List.mem_map.mp new
        rfl
    have list := abandonListings_all plain' listings own
    rw [← List.append_assoc, ← parts] at list
    refine ⟨?_, ?_⟩
    · rw [link, list]
      simp only [List.append_assoc]
      rfl
    · have kept : l.length ≤ (abandonListings 0 (s.rl.transmit ++ l)).length := by
        rw [list, List.length_append, List.length_append]
        omega
      have fewer := abandonListings_length (s.rl.transmit ++ l) 0
      rw [link]
      simp only [List.length_append, List.length_singleton] at fewer ⊢
      omega

end Sys2Proof.Machine
end

section
/-! A TABLE_DATA on a SERVICE burst (R34, R37 to R39). -/

namespace Sys2Proof.Machine

/-! ## The ports in ALERT follow the alert channel's new service (R39) -/

/-- R39: a record in ALERT takes the new service of channel c, where the alert is active on it. -/
def State.relit (s : State) (c : Channel) (e : Option Service) (r : PortRecord) : PortRecord := match r with
  | .active .alert home _ d _ =>
    if s.su.alert.map (·.channel) = some c then
      .active .alert home (e.map fun e => resolveIn s.sf.remap.toList e.stream) d 3000 else r
  | _ => r

section
variable {s : State} {c : Channel} {e : Option Service}

theorem State.relit_other {r : PortRecord} (other : r.isAlert = false) : s.relit c e r = r := by
  cases r with
  | off | blanked => rfl
  | active v =>
    cases v with
    | alert => cases other
    | playing | preview => rfl

theorem State.relit_eq (home : Channel) (st : Option Nat) (d : Delivery) (n : Nat) :
    s.relit c e (.active .alert home st d n) = if s.su.alert.map (·.channel) = some c then
      .active .alert home (e.map fun e => resolveIn s.sf.remap.toList e.stream) d 3000 else .active .alert home st d n := rfl

theorem State.relit_alert (home : Channel) (st : Option Nat) (d : Delivery) (n : Nat) :
    ∃ st' n', s.relit c e (.active .alert home st d n) = .active .alert home st' d n' := by
  rw [State.relit_eq]
  split
  · exact ⟨_, _, rfl⟩
  · exact ⟨_, _, rfl⟩

theorem State.relit_noticeFields (r : PortRecord) (a : Option Alert) : (s.relit c e r).noticeFields a = r.noticeFields a := by
  cases r with
  | off | blanked => rfl
  | active v home st d n =>
    cases v with
    | playing | preview => rfl
    | alert =>
      obtain ⟨st', n', same⟩ := s.relit_alert (c := c) (e := e) home st d n
      rw [same]
      rfl

theorem State.relit_active (r : PortRecord) : s.relit c e r = r ∨ (s.relit c e r).isActive = true ∧ r.isActive = true := by
  cases r with
  | off | blanked => exact .inl rfl
  | active v home st d n =>
    cases v with
    | playing | preview => exact .inl rfl
    | alert =>
      obtain ⟨st', n', same⟩ := s.relit_alert (c := c) (e := e) home st d n
      rw [same]
      exact .inr ⟨rfl, rfl⟩

/-- R97: a port in ALERT previews nothing, before and after. -/
theorem State.relit_previewing {t t' : State} {p : Port} (port : t'.port p = s.relit c e (t.port p)) (tm : t'.tm = t.tm) :
    t'.previewing p = t.previewing p := by
  cases old : (t.port p).isAlert with
  | false => exact State.previewing_congr (port.trans (State.relit_other old)) tm
  | true =>
    have alerted : ∀ {x : State}, (x.port p).isAlert = true → x.previewing p = none := fun {x} own => by
      unfold State.previewing
      cases record : x.port p with
      | off | blanked => rfl
      | active v =>
        cases v with
        | alert | playing => rfl
        | preview =>
          rw [record] at own
          cases own
    have own : (t'.port p).isAlert = true := by
      rw [port]
      cases record : t.port p with
      | off | blanked => rw [record] at old; cases old
      | active v home st d n =>
        rw [record] at old
        cases v with
        | playing | preview => cases old
        | alert =>
          obtain ⟨st', n', same⟩ := s.relit_alert (c := c) (e := e) home st d n
          rw [same]
          rfl
    rw [alerted own, alerted old]

/-- R39: the streams found anew are the new service's. -/
theorem State.restreamed_relit {w : State} (su : w.su = s.su) (sf : w.sf = s.sf) (entry : w.entry c = e) (r : PortRecord) :
    (if (s.su.alert.any (·.channel == c)) && r.isAlert then w.restreamed r else r) = s.relit c e r := by
  cases r with
  | off | blanked => simp [PortRecord.isAlert, State.relit]
  | active v home st d n =>
    cases v with
    | playing | preview => simp [PortRecord.isAlert, State.relit]
    | alert =>
      cases alert : s.su.alert with
      | none => simp [State.relit, alert]
      | some a =>
        by_cases here : a.channel = c
        · have stream : w.resolve .alert home = e.map fun e => resolveIn s.sf.remap.toList e.stream := by
            rw [State.resolve_eq, if_pos rfl, su, alert, Option.bind_some, here, State.streamOf, entry, sf]
          simp [PortRecord.isAlert, State.relit, alert, here, State.restreamed, stream, signalMs]
        · simp [State.relit, alert, here]

end

/-! ## One Service Map write (R37 to R39) -/

section
variable (s : State) (c : Channel) (e : Option Service)

/-- R39: the write up to its migration. -/
def State.relitWrite : State :=
  if (s.decideChannel c e).su.alert.any (·.channel == c) then (s.decideChannel c e).restreamAlerts else s.decideChannel c e

theorem State.relitWrite_frame : PortsFrame (s.decideChannel c e) (s.relitWrite c e) := by
  unfold State.relitWrite
  split
  · exact State.restreamAlerts_ports _
  · exact .refl _

theorem State.relitWrite_rl : (s.relitWrite c e).rl = (s.decideChannel c e).rl := by
  unfold State.relitWrite
  split
  · exact State.restreamAlerts_rl _
  · rfl

theorem State.relitWrite_previews : (s.relitWrite c e).pc.previews = (s.decideChannel c e).pc.previews := by
  unfold State.relitWrite
  split
  · exact State.restreamAlerts_previews _
  · rfl

theorem State.relitWrite_port (p : Port) : (s.relitWrite c e).port p = s.relit c e ((s.decideChannel c e).port p) := by
  have frame := s.decideChannel_frame c e
  have su : (s.decideChannel c e).su = s.su := frame.su
  have entry : (s.decideChannel c e).entry c = e := by
    rw [State.entry, frame.tm]
    exact (s.storeService_entry c c e).trans (if_pos rfl)
  rw [← State.restreamed_relit su frame.sf entry, State.relitWrite, su]
  split
  · next on =>
    rw [State.restreamAlerts_port, on, Bool.true_and]
  · next off =>
    rw [if_neg (by simp [off])]

/-- R37 to R39: what a write stores, the ports in ALERT following it. -/
def State.withService : State := { s with
  tm := { s.tm with services := s.tm.services.set c e }
  pc := { s.pc with ports := s.pc.ports.map (s.relit c e) } }

theorem State.withService_port (p : Port) : (s.withService c e).port p = s.relit c e (s.port p) := by
  simp [State.withService, State.port]

end

/-- R38, R85: a port that the write decides is where the decision places it, in ALERT too. -/
theorem State.PlacedFrom.relit {s t : State} {old : PortRecord} {p : Port} {c : Channel} {e : Option Service}
    (h : t.PlacedFrom old p c) (awake : old.isAlert = false) (su : t.su = s.su) (sf : t.sf = s.sf) (entry : t.entry c = e) :
    s.relit c e (t.port p) = t.port p := by
  obtain ⟨l, d, decides, placed⟩ := h
  have blank : ∀ r, s.relit c e (blankedFrom old r c) = blankedFrom old r c := fun r => by
    obtain ⟨n, same⟩ := blankedFrom_blanked old r c
    rw [same]
    rfl
  rw [placed]
  cases d with
  | playing | preview => rfl
  | absent => exact blank _
  | blank r => exact blank r
  | alert =>
    have same : t.placed old c .alert =
        .active .alert c (t.su.alert.bind fun a => t.streamOf a.channel) (old.delivery.getD .noSignal) 3000 := by
      cases old with
      | off | blanked => rfl
      | active v =>
        cases v with
        | alert => cases awake
        | playing | preview => rfl
    rw [same, State.relit_eq]
    split
    · next here =>
      obtain ⟨a, alert, channel⟩ := Option.map_eq_some_iff.mp here
      rw [su, alert, Option.bind_some, channel, State.streamOf, entry, sf]
    · rfl

/-- R38, R39: a Service Map write decides the ports on its channel. -/
theorem State.writeService_decided (s : State) (c : Channel) (e : Option Service) :
    PortsDecided s (s.withService c e) (s.writeService c e) fun p =>
      if (s.port p).home = some c ∧ (s.port p).state ≠ .alert then some c else none := by
  have decided := s.decideChannel_decided c e
  have target : ∀ p, (if (s.port p).home = some c ∧ (s.port p).state ≠ .alert then some c else none) =
      if s.onChannel c p then (s.port p).home else none := fun p => by
    have on : s.onChannel c p = true ↔ (s.port p).home = some c ∧ (s.port p).state ≠ .alert := by
      rw [State.onChannel, Bool.and_eq_true, beq_iff_eq, Bool.not_eq_true', ← Bool.not_eq_true, PortRecord.isAlert_iff]
    by_cases here : s.onChannel c p = true
    · rw [if_pos here, if_pos (on.mp here), (on.mp here).1]
    · rw [if_neg here, if_neg (mt on.mpr here)]
  have decided := decided.congr_target target
  have write : s.writeService c e = (s.relitWrite c e).migrate := s.writeService_eq c e
  have frame := (s.decideChannel_frame c e).trans (s.relitWrite_frame c e)
  have port : ∀ p, (s.writeService c e).port p = s.relit c e ((s.decideChannel c e).migrate.port p) := fun p => by
    rw [write, State.port, State.migrate_pc, ← State.port, s.relitWrite_port, State.port, State.port, State.migrate_pc]
  have moved {p : Port} {c' : Channel} (own : (if (s.port p).home = some c ∧ (s.port p).state ≠ .alert then some c else none) =
      some c') : c' = c ∧ (s.port p).isAlert = false := by
    split at own
    · next here =>
      exact ⟨(Option.some.inj own).symm, by rw [← Bool.not_eq_true, PortRecord.isAlert_iff]; exact here.2⟩
    · cases own
  have outside : SameOutsidePorts (s.withService c e) (s.writeService c e) := by
    rw [write]
    exact ⟨(State.migrate_su _).trans frame.su, (State.migrate_fi _).trans frame.fi, (State.migrate_sf _).trans frame.sf,
      (State.migrate_md _).trans frame.md, (State.migrate_tm _).trans frame.tm, (State.migrate_lu _).trans frame.lu,
      (State.migrate_pu _).trans frame.pu, (State.migrate_bq _).trans frame.bq, (State.migrate_room _).trans frame.room,
      (State.migrate_pending _).trans frame.pending⟩
  have keys : KeysMigrated (s.withService c e) (s.writeService c e) := by
    rw [write]
    exact (State.migrate_keys _).congr frame.ks
  have placed := fun p c' own => decided.placed (p := p) (c := c') own
  have stays := fun p none => decided.unmoved (p := p) none
  obtain ⟨⟨su, -, sf, -, tm, lu, pu, -⟩, -, ⟨order, all, ran⟩, made, announced, link⟩ := decided
  have ⟨su', _, sf', _, tm', lu', pu', _⟩ := outside
  have entry : (s.decideChannel c e).migrate.entry c = e := by
    rw [State.entry, tm]
    exact (s.storeService_entry c c e).trans (if_pos rfl)
  refine ⟨outside, keys, ⟨order, all, ran.congr (fun _ _ => rfl) (fun p own => ?_) (fun p none => ?_) (fun p => ?_)
    (fun p => State.relit_previewing (port p) (tm'.trans tm.symm)) ?_ (su'.trans su.symm) (sf'.trans sf.symm)
    (tm'.trans tm.symm) (lu'.trans lu.symm) (pu'.trans pu.symm) order _⟩, made, ?_, ?_⟩
  · obtain ⟨c', some'⟩ := Option.ne_none_iff_exists'.mp own
    obtain ⟨rfl, awake⟩ := moved some'
    rw [port]
    exact (placed p c' some').relit awake su sf entry
  · rw [port, s.withService_port, stays p none]
    rfl
  · exact State.relit_previewing (s.withService_port c e p) rfl
  · rw [write, State.migrate_pc, State.migrate_pc, s.relitWrite_previews]
  · refine announced.congr (fun _ => rfl) rfl (fun p => ?_) fun p => ?_
    · rw [State.notice, port, State.relit_noticeFields, su'.trans su.symm]
      rfl
    · rw [port]
      exact State.relit_active _
  · rw [write, State.migrate_rl, s.relitWrite_rl, ← State.migrate_rl, link]
    rfl

end Sys2Proof.Machine
end

section
/-! The statement about a SERVICE burst (R34, R37 to R39). -/

namespace Sys2Proof.Machine

/-- MD plays no part in a decision of ports. -/
theorem PortsDecided.withMd {before s t : State} {target : Port → Option Channel} (h : PortsDecided before s t target)
    (md : ManagementDecoder) : PortsDecided before { s with md := md } { t with md := md } target := by
  have stays := fun p none => h.unmoved (p := p) none
  obtain ⟨⟨su, fi, sf, -, tm, lu, pu, bq, room, pending⟩, keys, ⟨order, all, ran⟩, made, announced, link⟩ := h
  refine ⟨⟨su, fi, sf, rfl, tm, lu, pu, bq, room, pending⟩, (keys.congr (s := { s with md := md }) rfl).congr_after rfl fun _ => rfl,
    ⟨order, all, ?_⟩, made, announced.congr (fun _ => rfl) rfl (fun _ => rfl) fun _ => .inl rfl, link⟩
  exact Decided.congr (s := s) (t := t) (s' := { s with md := md }) (t' := { t with md := md }) (fun _ _ => rfl)
    (fun _ _ => rfl) (fun p none => stays p none) (fun _ => rfl) (fun _ => rfl) rfl rfl rfl rfl rfl rfl order _ ran

/-- R34, R37: one entry of a SERVICE burst that finds it open. -/
theorem State.takeEntry_service {s : State} {b : Burst} (open' : s.md.burst = some b) (u : Unit96) (i : Nat) :
    PortsDecided s
      { s.withService (Fin.ofNat 256 b.pointer) (serviceEntry u (5 + 10 * i)) with md := { s.md with burst := b.advance } }
      (State.takeEntry u .service s i)
      fun p => if (s.port p).home = some (Fin.ofNat 256 b.pointer) ∧ (s.port p).state ≠ .alert then
        some (Fin.ofNat 256 b.pointer) else none := by
  have pass : s.md.passEntry = { s.md with burst := b.advance } := by
    rw [ManagementDecoder.passEntry, open']
  rw [State.takeEntry_open open', pass]
  exact (s.writeService_decided (Fin.ofNat 256 b.pointer) (serviceEntry u (5 + 10 * i))).withMd _

/-- What the entries of a SERVICE burst keep: the remap table, and the units that wait. -/
structure ServicesWritten (s : State) (b : Burst) (n : Nat) (t : State) : Prop where
  sf    : t.sf = s.sf
  burst : ∀ b', t.md.burst = some b' → b' = { b with pointer := b.pointer + n }
  rl    : ∃ l, t.rl.transmit = s.rl.transmit ++ l

theorem State.entries_service {u : Unit96} {s : State} {b : Burst} (open' : s.md.burst = some b) (n : Nat) :
    ServicesWritten s b n (s.entries u .service n) := by
  induction n with
  | zero =>
    refine ⟨rfl, fun b' same => ?_, [], (List.append_nil _).symm⟩
    exact (Option.some.inj (open'.symm.trans same)).symm
  | succ n ih =>
    obtain ⟨sf, burst, l, list⟩ := ih
    rw [State.entries_succ]
    cases closed : (s.entries u .service n).md.burst with
    | none =>
      have md := (s.entries u .service n).takeEntry_md u .service n
      rw [ManagementDecoder.passEntry_none closed] at md
      rw [State.takeEntry_closed closed]
      refine ⟨sf, fun b' same => ?_, l, list⟩
      rw [ManagementDecoder.passEntry_none closed] at same
      exact absurd (closed.symm.trans same) (Option.some_ne_none b').symm
    | some b' =>
      have decided := State.takeEntry_service closed u n
      obtain rfl := burst b' closed
      obtain ⟨⟨-, -, sf', md, -⟩, -, -, made, announced, link⟩ := decided
      obtain ⟨more, grown⟩ := announced.grows
      refine ⟨sf'.trans sf, fun b'' same => ?_, l ++ more, ?_⟩
      · rw [md] at same
        have same : Burst.advance { b with pointer := b.pointer + n } = some b'' := same
        unfold Burst.advance at same
        split at same
        · exact (Option.some.inj same).symm
        · cases same
      · rw [link]
        show made = _
        rw [grown, ← List.append_assoc, ← list]
        rfl

/-- Settles O17: the entries one after the other (`State.takeEntry_service`). -/
theorem serviceWriteDecidesItsPorts : Obligations.ServiceWriteDecidesItsPorts := by
  intro u s b spelled taken open' kind tag some' few
  have all : s.takeData u = s.entries u .service u.body[4].toNat := by
    have same := State.takeData_taken open' tag some' (by rw [kind]; exact few)
    rw [kind] at same
    exact same
  have wrote := fun i => State.entries_service (u := u) open' i
  have fell : FellIn s (s.entries u .service u.body[4].toNat) (s.untied fun t => t.takeData u) := by
    have fell := State.untied_fellIn (s := s) (event := fun t => t.takeData u) (by rw [all]; exact (wrote _).rl)
    rw [all] at fell
    exact fell
  refine ⟨s.entries u .service, _, rfl, exec_tableData spelled taken, fell, fun i _ => ⟨fun closed => ?_, fun b' opened => ?_⟩⟩
  · rw [State.entries_succ, State.takeEntry_closed closed, ManagementDecoder.passEntry_none closed]
    rfl
  · refine ⟨(wrote i).burst b' opened, ?_⟩
    rw [State.entries_succ]
    have decided := State.takeEntry_service opened u i
    have sf := (wrote i).sf
    generalize s.entries u .service i = old at decided sf opened ⊢
    have relit : old.relit (Fin.ofNat 256 b'.pointer) (serviceEntry u (5 + 10 * i)) = fun r => match r with
        | .active .alert home _ d _ =>
          if old.su.alert.map (·.channel) = some (Fin.ofNat 256 b'.pointer) then .active .alert home
            ((serviceEntry u (5 + 10 * i)).map fun e => resolveIn s.sf.remap.toList e.stream) d 3000 else r
        | _ => r := by
      funext r
      rw [← sf]
      rfl
    unfold State.withService at decided
    rw [relit] at decided
    exact decided

end Sys2Proof.Machine
end

section
/-! The due events of a jump of the clock, and each event's own row (R9, R10). -/

namespace Sys2Proof.Machine

/-! ## The order of a run (R10) -/

/-- R10: no registered event is due before `m`. -/
def State.DueFrom (m : Nat) (s : State) : Prop := ∀ d ∈ s.dueEvents, m ≤ d.1

theorem State.DueFrom.fewer {m : Nat} {s t : State} (from' : s.DueFrom m) (h : Fewer s t) : t.DueFrom m := fun d there =>
  from' d (State.mem_dueEvents.mpr (h.registered (State.mem_dueEvents.mp there)))

/-- R10, R114: what is registered by an event that is taken is not due before it. -/
theorem State.takeDue_from {s : State} {d : Nat × DueEvent} (from' : s.DueFrom d.1) (range : d.1 ≤ 4294967295) :
    (s.takeDue d.1 d.2).DueFrom d.1 := by
  by_cases lockout : d.2 = .lockout
  · intro d' there
    rw [lockout] at there
    obtain ⟨was, -⟩ | rfl := State.endLockout_registered (State.mem_dueEvents.mp there)
    · exact from' d' (State.mem_dueEvents.mpr was)
    · rw [holdDue_eq]
      exact Nat.le_min.mpr ⟨Nat.le_add_right _ _, range⟩
  · exact from'.fewer (State.takeDue_fewer lockout)

/-- R10: a run takes its events in due order, and leaves none registered that is due before one it took. -/
theorem DueRun.ordered {T m : Nat} (range : T ≤ 4294967295) : ∀ {ds : List (Nat × DueEvent)} {s t : State}, DueRun T s ds t →
    s.DueFrom m → (∀ d ∈ ds, m ≤ d.1) ∧ (ds.map (·.1)).Pairwise (· ≤ ·) ∧ t.DueFrom m ∧ ∀ d ∈ ds, t.DueFrom d.1
  | [], s, t, run, from' => by
    have same : t = { s with choices := t.choices } := run
    refine ⟨fun d none => absurd none List.not_mem_nil, List.Pairwise.nil, ?_, fun d none => absurd none List.not_mem_nil⟩
    rw [same]
    exact from'
  | d :: ds, s, t, run, from' => by
    obtain ⟨registered, due, least, choices, rest⟩ := run
    have first := from' d registered
    have after := State.takeDue_from (s := { s with choices := choices }) least (due.trans range)
    obtain ⟨later, sorted, left, each⟩ := DueRun.ordered range rest after
    refine ⟨fun x member => ?_, ?_, fun x there => first.trans (left x there), fun x member => ?_⟩
    · obtain rfl | member := List.mem_cons.mp member
      · exact first
      · exact first.trans (later x member)
    · rw [List.map_cons, List.pairwise_cons]
      refine ⟨fun n member => ?_, sorted⟩
      obtain ⟨y, there, rfl⟩ := List.mem_map.mp member
      exact later y there
    · obtain rfl | member := List.mem_cons.mp member
      · exact left
      · exact each x member

/-- The free choices are used up in passing. -/
theorem DueRun.choices {T : Nat} {s t : State} {c : Choices} {ds : List (Nat × DueEvent)}
    (run : DueRun T { s with choices := c } ds t) : DueRun T s ds t := by
  cases ds with
  | nil => exact run
  | cons d ds => exact run

/-! ## What due events take up (R10) -/

/-- Purchases close and none opens; a preview record is an old one, or new with no second. -/
structure ClosesOnly (s t : State) : Prop where
  purchases : ∀ e ∈ t.pu.purchases, e ∈ s.pu.purchases
  previews  : ∀ r ∈ t.pc.previews, r.seconds = 0 ∨ r ∈ s.pc.previews

theorem ClosesOnly.of_eq {s t : State} (pu : t.pu = s.pu) (pc : t.pc = s.pc) : ClosesOnly s t :=
  ⟨fun e member => by rwa [← pu], fun r member => .inr (by rwa [← pc])⟩

theorem ClosesOnly.trans {s t u : State} (h : ClosesOnly s t) (k : ClosesOnly t u) : ClosesOnly s u :=
  ⟨fun e member => h.purchases e (k.purchases e member), fun r member => (k.previews r member).elim .inl (h.previews r)⟩

/-- R97: a port decided into PREVIEW starts a record with no second. -/
theorem PortsDecided.closesOnly {before s t : State} {target : Port → Option Channel} (h : PortsDecided before s t target) :
    ClosesOnly s t := by
  obtain ⟨⟨-, -, -, -, -, -, pu, -⟩, -, ⟨order, -, ran⟩, -⟩ := h
  exact ⟨fun e member => by rwa [← pu], fun r member => (Decided.records member order _ ran).symm.imp (·.1) id⟩

theorem State.takeDue_closesOnly (s : State) (due : Nat) (e : DueEvent) : ClosesOnly s (s.takeDue due e) := by
  cases e with
  | keyPhase g ph => exact .of_eq (State.migrate_pu _) (State.migrate_pc _)
  | unlock p =>
    by_cases held : s.lu.unlocks[p] = none
    · exact .of_eq (congrArg State.pu (State.endUnlock_none held)) (congrArg State.pc (State.endUnlock_none held))
    · have decided := State.endUnlock_decided held
      exact ClosesOnly.trans (t := s.setUnlock p Option.none) (.of_eq rfl rfl) decided.closesOnly
  | lockout | strict => exact .of_eq rfl rfl
  | window title =>
    unfold State.takeDue
    dsimp only
    split
    · next e held =>
      refine .trans ⟨fun x member => ?_, fun r member => .inr ?_⟩ (s.endWindow_decided e due).closesOnly
      · rw [State.closePurchase_purchases] at member
        exact (List.mem_filter.mp member).1
      · rw [State.closePurchase_eq] at member
        exact member
    · exact .of_eq rfl rfl
  | alert => exact ClosesOnly.trans (t := s.setAlert none) (.of_eq rfl rfl) s.endAlert_decided.closesOnly

theorem DueRun.closesOnly {T : Nat} : ∀ {ds : List (Nat × DueEvent)} {s t : State}, DueRun T s ds t → ClosesOnly s t
  | [], s, t, run => by
    have same : t = { s with choices := t.choices } := run
    exact .of_eq (by rw [same]) (by rw [same])
  | d :: ds, s, t, run => by
    obtain ⟨-, -, -, choices, rest⟩ := run
    have chosen : ClosesOnly s { s with choices := choices } := .of_eq rfl rfl
    exact (chosen.trans (State.takeDue_closesOnly _ d.1 d.2)).trans (DueRun.closesOnly rest)

/-! ## A registered expiry (R57) -/

/-- R57: a registered expiry is found. -/
theorem KeyStore.StoreLaw.expiryOf {ks : KeyStore} (law : ks.StoreLaw) {x : KeyEntry} {ph : KeyPhase} {k : PhaseKey}
    (member : x ∈ ks.entries) (phase : x.phase ph = some k) (some' : k.expiry ≠ 0) : (ks.expiryOf x.group ph).isSome = true := by
  obtain ⟨g, place, there⟩ := KeyStore.mem_entries.mp member
  have own : ks.at x.group place = some x := by
    obtain ⟨-, near⟩ := (ks.storeLaw_iff.mp law).1 g place x there
    cases place with
    | slot => exact there
    | way w => rw [ks.at_congr (near (by simp)) w, there]
  have held : ks.held x.group = some x := (KeyStore.StoreLaw.held_iff law x.group x).mpr ⟨rfl, place, own⟩
  show (((ks.held x.group).bind _ : Option Nat)).isSome = true
  rw [held, Option.bind_some, phase, Option.bind_some, if_neg some']
  rfl

end Sys2Proof.Machine
end

section
/-! CLOCK_MARK (R9 to R11), and the rows of the events that a jump takes. -/

namespace Sys2Proof.Machine

/-! ## Each event's own row (R10) -/

/-- A registered event's own row takes it at its due time. -/
theorem exec_row {s : State} {d : Nat × DueEvent} (store : s.ks.StoreLaw) (purchases : s.PurchaseLaw)
    (below : s.su.clock < 4294967295) (registered : s.Registered d) :
    exec d.2.row s = .next (s.untied fun b => b.takeDue d.1 d.2) := by
  obtain ⟨due, e⟩ := d
  cases e with
  | keyPhase g ph =>
    obtain ⟨x, member, rfl, k, phase, forever, -⟩ := registered
    have run : exec (.keyPhaseExpiry x.group ph) s =
      .next (if (s.ks.expiryOf x.group ph).isSome then s.expireKey x.group ph else s) := rfl
    rw [if_pos (store.expiryOf member phase forever)] at run
    have silent : (s.expireKey x.group ph).rl = s.rl := State.migrate_rl _
    refine run.trans (congrArg Host.Outcome.next ?_)
    exact (State.untied_silent (event := fun b => b.expireKey x.group ph) (by rw [silent]) (by rw [silent])).symm
  | unlock p => rfl
  | lockout =>
    have locked : s.lu.lockout = some due := registered
    have run : exec .lockoutEnd s = .next (match s.lu.lockout with
      | some due => s.untied fun b => (b.endLockout due).settleHeld
      | none => s) := rfl
    rw [locked] at run
    exact run.trans (congrArg Host.Outcome.next (State.untied_congr (State.settleHeld_below below)))
  | strict =>
    exact congrArg Host.Outcome.next (State.untied_silent (s := s) (event := State.endStrict) rfl rfl).symm
  | window title =>
    obtain ⟨x, member, rfl, rfl⟩ := registered
    have held := State.purchase_of_mem purchases.2 member
    have run : exec (.purchaseWindowEnd x.title) s = .next (match s.purchase x.title with
      | some e => s.untied fun b => b.endWindow e e.windowEnd
      | none => s) := rfl
    rw [held] at run
    refine run.trans (congrArg Host.Outcome.next (State.untied_congr ?_))
    show _ = (match s.purchase x.title with | some e => s.endWindow e x.windowEnd | none => s)
    rw [held]
  | alert =>
    obtain ⟨a, active, -⟩ := registered
    exact congrArg Host.Outcome.next (if_pos (by rw [active]; rfl))

/-! ## The mark (R9, R11) -/

/-- R11: the silence monitor restarts, and a SILENT that ends clears the silent purchase count. -/
theorem State.breakSilence_eq (s : State) : s.breakSilence = { s with
    su := { s.su with silenceCount := 0, silent := false }
    pu := { s.pu with silentCount := if s.su.silent then 0 else s.pu.silentCount } } := by
  unfold State.breakSilence
  split <;> rfl

/-- R9: a mark that is not ahead of the clock. -/
theorem State.mark_behind {s : State} {n : Nat} (behind : n ≤ s.su.clock) :
    s.mark n = ({ s with su := { s.su with marksIgnored := raiseCounter s.su.marksIgnored } } : State).breakSilence :=
  if_neg (Nat.not_lt.mpr behind)

/-- R9: a mark ahead of the clock. -/
theorem State.mark_ahead {s : State} {n : Nat} (ahead : s.su.clock < n) :
    s.mark n = (({ s with su := { s.su with clock := n } } : State).settleDue).breakSilence := if_pos ahead

/-- R10: nothing is due at or before the clock. -/
theorem State.dueNow_nil {s : State} (later : ∀ d ∈ s.dueEvents, s.su.clock < d.1) : s.dueNow = [] :=
  List.filter_eq_nil_iff.mpr fun d member => by simpa using later d member

/-- R10: what a jump registers later, with the store in order. -/
theorem State.settleDue_later {s : State} (store : s.ks.StoreLaw) : ∀ d ∈ s.settleDue.dueEvents, s.su.clock < d.1 :=
  fun d member => by
    have later := State.dueNow_none (State.settleDue_clears store) (State.mem_dueEvents.mp member)
    rwa [s.settleDue_due.clock] at later

/-- R9, R10: a mark ahead of the clock, from the state with the clock set. -/
theorem State.mark_run {s : State} {n : Nat} (ahead : s.su.clock < n) :
    ∃ taken ended, DueRun n { s with su := { s.su with clock := n } } taken ended ∧
      DueFrame { s with su := { s.su with clock := n } } ended ∧ s.mark n = ended.breakSilence ∧
      (s.ks.StoreLaw → ∀ d ∈ ended.dueEvents, n < d.1) := by
  obtain ⟨taken, run⟩ := State.takeDueUpTo_run
    (({ s with su := { s.su with clock := n } } : State).dueEvents.length + 1) { s with su := { s.su with clock := n } }
  exact ⟨taken, _, run, State.settleDue_due _, State.mark_ahead ahead, fun store =>
    State.settleDue_later (s := { s with su := { s.su with clock := n } }) store⟩

theorem State.untied_fewer (s : State) {event : State → State} : Fewer (event s) (s.untied event) := {}

/-- Settles O26: the jump is a run of due events (`State.mark_run`), and each row takes its own (`exec_row`). -/
theorem clockMarkSetsTheClock : Obligations.ClockMarkSetsTheClock := by
  refine ⟨fun u s spelled taken => ?_, fun s d store purchases below member =>
    ⟨_, exec_row store purchases below (State.mem_dueEvents.mp member),
    State.untied_fellIn (event := fun b => b.takeDue d.1 d.2) ?_⟩⟩
  · dsimp only
    have run : exec (.clockMark u) s = .next (s.untied fun b => b.mark (u.word32 3)) := managed spelled taken rfl
    refine ⟨fun behind => ?_, fun ahead later => ?_, fun ahead => ?_⟩
    · have marked := State.mark_behind behind
      rw [run, State.untied_silent (by rw [marked]; rfl) (by rw [marked]; rfl), marked, State.breakSilence_eq]
      rfl
    · have marked := State.mark_ahead ahead
      rw [State.settleDue_none (State.dueNow_nil (s := { s with su := { s.su with clock := u.word32 3 } }) later)] at marked
      rw [run, State.untied_silent (by rw [marked]; rfl) (by rw [marked]; rfl), marked, State.breakSilence_eq]
    · obtain ⟨due, ended, jump, frame, marked, later⟩ := State.mark_run ahead
      obtain ⟨l, -, link⟩ := frame.link
      have silent : ended.su.silent = s.su.silent := by rw [frame.su]
      have quiet := ended.breakSilence_eq
      rw [silent, frame.pu, ← marked] at quiet
      have fell := State.untied_fellIn (s := s) (event := fun b => b.mark (u.word32 3)) ⟨l, by rw [quiet, link]⟩
      have closes := jump.closesOnly
      have dues : Fewer ended (s.untied fun b => b.mark (u.word32 3)) :=
        .trans (marked ▸ ended.breakSilence_fewer) s.untied_fewer
      rw [quiet] at fell
      refine ⟨_, run, ?_, ?_, ?_, ?_, ?_, ?_, ?_, fun store => ⟨?_, due, ended, jump, fell, ?_⟩⟩
      · rw [State.untied_su, quiet, frame.su]
      · rw [State.untied_su, quiet]
      · rw [State.untied_su, quiet]
      · rw [State.untied_su, quiet, frame.su]
      · rw [State.untied_pu, quiet]
      · rw [State.untied_pu, quiet]
        exact closes.purchases
      · rw [State.untied_pc, quiet]
        exact closes.previews
      · exact fun d member => later store d (State.mem_dueEvents.mpr (dues.registered (State.mem_dueEvents.mp member)))
      · exact (jump.ordered (Nat.le_of_lt_succ (u.word32_lt 3)) fun d _ => Nat.zero_le d.1).2.1
  · obtain ⟨l, -, link⟩ := (s.takeDue_due d.1 d.2).link
    exact ⟨l, by rw [link]⟩

end Sys2Proof.Machine
end

section
/-! The accruals of a local second (R97, R137), and the second itself (R8, R10, R11). -/

namespace Sys2Proof.Machine

/-! ## The accruals (R97, R137) -/

theorem PortRecord.starved_iff (r : PortRecord) :
    r.starved = true ↔ r.state = .alert ∨ r.state = .playing ∧ r.delivery ≠ some .flowing := by
  cases r with
  | off | blanked => simp [PortRecord.starved, PortRecord.state]
  | active v home stream d n =>
    cases v <;> cases d <;> simp [PortRecord.starved, PortRecord.state, PortRecord.delivery]

theorem PortRecord.flows_iff (r : PortRecord) : r.flows = true ↔ r.state = .playing ∧ r.delivery = some .flowing := by
  cases r with
  | off | blanked => simp [PortRecord.flows, PortRecord.state]
  | active v home stream d n => cases v <;> cases d <;> simp [PortRecord.flows, PortRecord.state, PortRecord.delivery]

theorem State.carries_iff (s : State) (p : Port) (title : Nat) :
    s.carries p title = true ↔ ∃ c, (s.port p).home = some c ∧ s.titleOn c = some title := by
  unfold State.carries
  rw [beq_iff_eq, Option.bind_eq_some_iff]

/-- R137. -/
theorem State.isOutage_iff (s : State) (title : Nat) : s.isOutage title = true ↔
    (∃ p, s.carries p title = true ∧ (s.port p).starved = true) ∧ ¬ ∃ p, s.carries p title = true ∧ (s.port p).flows = true := by
  simp [State.isOutage, mem_allPorts]

/-- R96, R97. -/
theorem State.isPreviewed_iff (s : State) (title : Nat) : s.isPreviewed title = true ↔
    ∃ p, (s.port p).state = .preview ∧ ∃ c, (s.port p).home = some c ∧ s.titleOn c = some title := by
  simp [State.isPreviewed, mem_allPorts, State.previewing_iff, Option.bind_eq_some_iff]

/-- R97, step 2: when a port in PREVIEW of a FILM channel has used up its title's length. -/
theorem State.previewSpent_film {s : State} {p : Port} {c : Channel} {e : Service} {title : Nat} {k : PriceCode}
    (preview : (s.port p).state = .preview) (home : (s.port p).home = some c) (entry : s.entry c = some e)
    (film : e.tier = .film title k) :
    s.previewSpent p = true ↔
      ((s.price k).map (·.preview)).getD 0 ≤ ((s.previewRecord title).map (·.seconds)).getD 0 := by
  have left : s.previewSpent p = (previewLeft (s.price k) (s.previewRecord title) == 0) := by
    unfold State.previewSpent
    split
    · next port =>
      rw [port] at home
      obtain rfl := Option.some.inj home
      rw [entry]
      obtain ⟨tier, stream, group, rating⟩ := e
      obtain rfl : tier = _ := film
      rfl
    · next other =>
      cases port : s.port p with
      | off | blanked => rw [port] at preview; cases preview
      | active v c' stream d n =>
        cases v with
        | preview => exact absurd port (other c' stream d n)
        | playing | alert => rw [port] at preview; cases preview
  rw [left, beq_iff_eq]
  unfold previewLeft
  cases s.price k with
  | none => simp
  | some entry => simp [Nat.sub_eq_zero_iff_le]

theorem State.previewSpent_other {s : State} {p : Port} (other : (s.port p).state ≠ .preview) : s.previewSpent p = false := by
  by_contra spent
  obtain ⟨home, stream, d, n, port⟩ := State.spent_preview (Bool.eq_true_of_not_eq_false spent)
  exact other (by rw [port]; rfl)

theorem PortRecord.over_preview {r : PortRecord} {c : Channel} (preview : r.state = .preview) (home : r.home = some c) :
    r.over = .blanked .previewOver c 500 := by
  cases r with
  | off | blanked => cases preview
  | active v c' stream d n =>
    obtain rfl := Option.some.inj home
    rfl

/-- A list with the entries that `test` names changed. -/
theorem forall₂_map_if {α : Type} {test : α → Bool} {f : α → α} (l : List α) {named : α → Prop}
    (same : ∀ a, test a = true ↔ named a) :
    List.Forall₂ (fun a b => (named a → b = f a) ∧ (¬ named a → b = a)) l (l.map fun a => if test a then f a else a) := by
  rw [List.forall₂_map_right_iff, List.forall₂_same]
  intro a _
  exact ⟨fun yes => if_pos ((same a).mpr yes), fun no => if_neg (mt (same a).mp no)⟩

theorem State.overPreview_rl (s : State) (p : Port) : (s.overPreview p).rl = s.rl := by
  unfold State.overPreview
  split <;> rfl

/-- R97, step 2: the ports at the end of the preview accrual. -/
theorem State.accruePreview_port (s : State) (p : Port) :
    s.accruePreview.port p = if s.countPreview.previewSpent p then (s.port p).over else s.port p := by
  have folded := State.overPreviews_port s.countPreview (allPorts_nodup.filter s.countPreview.previewSpent) p
  simp only [List.mem_filter, mem_allPorts, true_and] at folded
  unfold State.accruePreview
  rw [State.port, State.migrate_pc, State.announce_pc]
  exact folded

/-- R97, step 1: the Preview List at the end of the preview accrual. -/
theorem State.accruePreview_previews (s : State) : s.accruePreview.pc.previews = s.countPreview.pc.previews := by
  unfold State.accruePreview
  rw [State.migrate_pc, State.announce_pc]
  exact foldl_previews State.overPreview_previews _ _

theorem State.accruePreview_moved (s : State) : PortsMoved s s.countPreview s.accruePreview :=
  portsMoved (PortsFrame.foldl (fun t p => t.overPreview_ports p) _ _) (foldl_rl State.overPreview_rl _ _)

/-- R97, R137: what the accruals of a second write. -/
theorem State.accrue_accrued (s : State) : Accrued s s.accrue := by
  have moved := s.accrueOutage.accruePreview_moved
  have port := s.accrueOutage.accruePreview_port
  have previews := s.accrueOutage.accruePreview_previews
  change PortsMoved s.accrueOutage s.accrueOutage.countPreview s.accrue at moved
  change ∀ p, s.accrue.port p = _ at port
  change s.accrue.pc.previews = _ at previews
  generalize s.accrue = t at *
  obtain ⟨⟨su, fi, sf, md, tm, lu, pu, bq, room, pending⟩, keys, made, announced, link⟩ := moved
  refine ⟨⟨⟨su, fi, sf, md, tm, lu, rfl, bq, room, pending⟩, keys, made, ?_, link⟩, ?_, ?_, ?_, ?_⟩
  · exact announced.congr (fun _ => rfl) rfl (fun _ => rfl) fun _ => .inl rfl
  · rw [pu]
    rfl
  · rw [pu]
    exact forall₂_map_if _ fun e => by simp only [State.isOutage_iff, State.carries_iff, PortRecord.starved_iff, PortRecord.flows_iff]
  · rw [previews]
    exact forall₂_map_if _ fun r => s.isPreviewed_iff r.title
  · refine fun p => ⟨fun other => ?_, fun c e title k preview home entry film => ?_⟩
    · rw [port, if_neg (by rw [State.previewSpent_other (s := s.accrueOutage.countPreview) other]; exact Bool.false_ne_true)]
      rfl
    · have over' := State.previewSpent_film (s := s.accrueOutage.countPreview) preview home entry film
      have record : s.accrueOutage.countPreview.previewRecord title = t.previewRecord title :=
        congrArg (List.find? _) previews.symm
      rw [record] at over'
      dsimp only
      refine ⟨fun used => ?_, fun left => ?_⟩
      · rw [port, if_pos (over'.mpr used)]
        exact PortRecord.over_preview (r := s.port p) preview home
      · rw [port, if_neg fun yes => absurd (over'.mp yes) (Nat.not_le.mpr left)]
        rfl

end Sys2Proof.Machine
end

section
/-! A local second (R8, R10, R11): the tick, and the due events about the accruals. -/

namespace Sys2Proof.Machine

/-! ## The tick (R8, R11) -/

theorem StayUnit.ticked_eq (su : StayUnit) : su.tickClock.countSilence = { su with
    clock := min (su.clock + 1) 4294967295
    silenceCount := if su.silenceCount < 90 then su.silenceCount + 1 else su.silenceCount
    silent := su.silent || su.silenceCount == 89 } := by
  unfold StayUnit.countSilence
  by_cases below : su.silenceCount < 90
  · rw [if_pos (show su.tickClock.silenceCount < silenceLimit from below)]
    have last : (su.silenceCount + 1 == 90) = (su.silenceCount == 89) := by simp
    simp only [StayUnit.tickClock, silenceLimit, last, clockMax, if_pos below]
  · rw [if_neg (show ¬ su.tickClock.silenceCount < silenceLimit from below)]
    have last : (su.silenceCount == 89) = false := beq_false_of_ne (by omega)
    simp only [StayUnit.tickClock, last, clockMax, if_neg below, Bool.or_false]

/-! ## The run of a second (R10, R99, R139) -/

theorem Accrued.grows {s t : State} (h : Accrued s t) : ∃ l, t.rl = { s.rl with transmit := s.rl.transmit ++ l } := by
  obtain ⟨⟨-, -, made, announced, link⟩, -⟩ := h
  obtain ⟨l, rfl⟩ := announced.grows
  exact ⟨l, link⟩

theorem Accrued.su {s t : State} (h : Accrued s t) : t.su = s.su := h.1.1.1

theorem DueRun.nil (T : Nat) (s : State) : DueRun T s [] s := rfl

/-- What a second does from the state `s` with its clock set. -/
structure SecondRun (s t : State) (first : List (Nat × DueEvent)) (judged accrued : State) (rest : List (Nat × DueEvent)) :
    Prop where
  before  : DueRun s.su.clock s first judged
  accrues : Accrued judged accrued
  after   : DueRun s.su.clock accrued rest t
  sorted  : s.su.clock ≤ 4294967295 → ((first ++ rest).map (·.1)).Pairwise (· ≤ ·)
  su      : t.su = { s.su with spend := t.su.spend, alert := t.su.alert }
  grows   : ∃ l, t.rl.transmit = s.rl.transmit ++ l
  later   : s.ks.StoreLaw → ∀ d ∈ t.dueEvents, s.su.clock < d.1

/-- R97, R137: a second at which nothing is due. -/
theorem SecondRun.idle {s : State} (none : s.dueNow = []) : SecondRun s s.accrue [] s s.accrue [] where
  before := .nil _ _
  accrues := s.accrue_accrued
  after := .nil _ _
  sorted _ := List.Pairwise.nil
  su := by rw [s.accrue_accrued.su]
  grows := by
    obtain ⟨l, link⟩ := s.accrue_accrued.grows
    exact ⟨l, by rw [link]⟩
  later _ d member := State.dueNow_none none (s.accrue_fewer.registered (State.mem_dueEvents.mp member))

/-- R10: due times stay in order from one run to a later one. -/
theorem DueRun.sorted_append {T : Nat} {s judged accrued t : State} {first rest : List (Nat × DueEvent)}
    (range : T ≤ 4294967295) (before : DueRun T s first judged) (between : Fewer judged accrued) (after : DueRun T accrued rest t) :
    ((first ++ rest).map (·.1)).Pairwise (· ≤ ·) := by
  obtain ⟨-, sorted, -, left⟩ := before.ordered range fun d _ => Nat.zero_le d.1
  obtain ⟨-, sorted', -, -⟩ := after.ordered range fun d _ => Nat.zero_le d.1
  rw [List.map_append]
  refine List.pairwise_append.mpr ⟨sorted, sorted', fun m early n late => ?_⟩
  obtain ⟨d, member, rfl⟩ := List.mem_map.mp early
  obtain ⟨d', member', rfl⟩ := List.mem_map.mp late
  exact (after.ordered range ((left d member).fewer between)).1 d' member'

/-- R10, R99, R139: a second at which events fall due: some before the accruals, the others after. -/
theorem SecondRun.due (s : State) (k : Nat) (c : Choices) : ∃ first judged accrued rest,
    SecondRun s ((({ s with choices := c } : State).takeDueUpTo k).accrue).settleDue first judged accrued rest := by
  obtain ⟨first, before⟩ := State.takeDueUpTo_run k { s with choices := c }
  have frame := State.takeDueUpTo_due k { s with choices := c }
  have kept := State.takeDueUpTo_keeps k { s with choices := c }
  generalize ({ s with choices := c } : State).takeDueUpTo k = judged at before frame kept
  have accrued := judged.accrue_accrued
  obtain ⟨rest, after⟩ := State.takeDueUpTo_run (judged.accrue.dueEvents.length + 1) judged.accrue
  have frame' := judged.accrue.settleDue_due
  have clock : judged.accrue.su.clock = s.su.clock := by rw [accrued.su, frame.su]
  rw [clock] at after
  change DueRun _ _ _ judged.accrue.settleDue at after
  refine ⟨first, judged, judged.accrue, rest, before.choices, accrued, after, fun range =>
    before.choices.sorted_append range judged.accrue_fewer after, ?_, ?_, fun store => ?_⟩
  · rw [frame'.su, accrued.su, frame.su]
  · obtain ⟨l, -, link⟩ := frame.link
    obtain ⟨l', link'⟩ := accrued.grows
    obtain ⟨l'', -, link''⟩ := frame'.link
    exact ⟨l ++ l' ++ l'', by rw [link'', link', link]; simp⟩
  · have later := State.settleDue_later (s := judged.accrue) (judged.accrue_keeps.store (kept.store store))
    rwa [clock] at later

/-- Settles O27: `State.second_cases` on the ticked state, each case a `SecondRun`. -/
theorem localSecondAccrues : Obligations.LocalSecondAccrues := by
  intro s clock ticked
  have range : clock ≤ 4294967295 := Nat.min_le_right _ _
  have tick : ticked = { s with su := s.su.tickClock.countSilence } := by rw [StayUnit.ticked_eq]
  have run : exec .localSecond s = .next (s.untied State.second) := rfl
  have second : ∃ first judged accrued rest, SecondRun ticked s.second first judged accrued rest := by
    obtain ⟨idle, same⟩ | ⟨k, c, same⟩ := s.second_cases ticked tick
    · exact ⟨_, _, _, _, same ▸ SecondRun.idle idle⟩
    · rw [same]
      exact SecondRun.due ticked k c
  refine ⟨?_, fun later => ?_⟩
  · obtain ⟨first, judged, accrued, rest, whole⟩ := second
    refine ⟨_, run, ?_, ?_, ?_, fun store d member => ?_, first, judged, accrued, rest, s.second, whole.before,
      whole.accrues, whole.after, State.untied_fellIn whole.grows, whole.sorted range⟩
    · rw [State.untied_su, whole.su]
    · rw [State.untied_su, whole.su]
    · rw [State.untied_su, whole.su]
    · exact whole.later store d (State.mem_dueEvents.mpr (s.untied_fewer.registered (State.mem_dueEvents.mp member)))
  · have idle : ticked.dueNow = [] := State.dueNow_nil (s := ticked) later
    have same : s.second = ticked.accrue := by
      unfold State.second
      dsimp only
      rw [← tick]
      split
      · rfl
      · next due => rw [idle] at due; cases due
    exact ⟨_, _, run, ticked.accrue_accrued, same ▸ State.untied_fellIn (same ▸ (SecondRun.idle idle).grows)⟩

end Sys2Proof.Machine
end
